-- ==== Sys2Proof/Word.lean ====
section
/-! DEFINITION. The widths of the CCS 502's words and fields (00_scope.md R4, R6; 30_encoding.md R61). -/

namespace Sys2Proof

/-- A word: 20 bits, bit 19 the sign digit (00_scope.md R6). -/
abbrev Word := BitVec 20

/-- A location number as a register holds it: 19 bits (10_state.md R26, 20_memory.md R45). -/
abbrev Address := BitVec 19

/-- The index register specifier X (30_encoding.md R61, R64). -/
abbrev IndexSpec := BitVec 3

/-- The address bits N (30_encoding.md R61, R65). -/
abbrev AddressBits := BitVec 10

/-- The function code F, two octal digits (30_encoding.md R62). -/
abbrev FunctionCode := BitVec 6

end Sys2Proof
end

