-- ==== Sys2Proof/Syntax.lean ====
section
/-! DEFINITION. The instructions of the CCS 502: one constructor per row of spec/opcode_table.json
(30_encoding.md R61, R70).

A constructor is named after the function code in octal and, where the table has one row per value of
the mode bit, the mode bit: `f13_1` is the row "13.1".  `x` is the index register specifier X, `n` the
ten address bits N, and `m` the mode bit M where one row of the table covers both of its values.
The eleven unallocated rows (R71, R246) are constructors too; their meaning is a refusal by name. -/

namespace Sys2Proof

inductive Instr where
  -- Group 0: modifier setting, direct and main store
  /-- `00.0`: b' = b + N (R100). -/
  | f00_0 (x : IndexSpec) (n : AddressBits)
  /-- `00.1`: b' = b + (N) (R101). -/
  | f00_1 (x : IndexSpec) (n : AddressBits)
  /-- `01.0`: b' = b - N (R102). -/
  | f01_0 (x : IndexSpec) (n : AddressBits)
  /-- `01.1`: b' = b - (N) (R103). -/
  | f01_1 (x : IndexSpec) (n : AddressBits)
  /-- `02.0`: b' = -b + N (R104). -/
  | f02_0 (x : IndexSpec) (n : AddressBits)
  /-- `02.1`: b' = -b + (N) (R105). -/
  | f02_1 (x : IndexSpec) (n : AddressBits)
  /-- `03.0`: b' = N (R106). -/
  | f03_0 (x : IndexSpec) (n : AddressBits)
  /-- `03.1`: b' = (N) (R107). -/
  | f03_1 (x : IndexSpec) (n : AddressBits)
  /-- `04.0`: not allocated (R71). -/
  | f04_0 (x : IndexSpec) (n : AddressBits)
  /-- `04.1`: (N)' = b + (N) (R108). -/
  | f04_1 (x : IndexSpec) (n : AddressBits)
  /-- `05.0`: not allocated (R71). -/
  | f05_0 (x : IndexSpec) (n : AddressBits)
  /-- `05.1`: (N)' = b - (N) (R109). -/
  | f05_1 (x : IndexSpec) (n : AddressBits)
  /-- `06.0`: not allocated (R71). -/
  | f06_0 (x : IndexSpec) (n : AddressBits)
  /-- `06.1`: (N)' = -b + (N) (R110). -/
  | f06_1 (x : IndexSpec) (n : AddressBits)
  /-- `07.0`: not allocated (R71). -/
  | f07_0 (x : IndexSpec) (n : AddressBits)
  /-- `07.1`: (N)' = b (R111). -/
  | f07_1 (x : IndexSpec) (n : AddressBits)
  -- Group 1: short arithmetic, direct and main store
  /-- `10.0`: a' = a + N (R120). -/
  | f10_0 (x : IndexSpec) (n : AddressBits)
  /-- `10.1`: a' = a + (N) (R121). -/
  | f10_1 (x : IndexSpec) (n : AddressBits)
  /-- `11.0`: a' = a - N (R122). -/
  | f11_0 (x : IndexSpec) (n : AddressBits)
  /-- `11.1`: a' = a - (N) (R123). -/
  | f11_1 (x : IndexSpec) (n : AddressBits)
  /-- `12.0`: a' = -a + N (R124). -/
  | f12_0 (x : IndexSpec) (n : AddressBits)
  /-- `12.1`: a' = -a + (N) (R125). -/
  | f12_1 (x : IndexSpec) (n : AddressBits)
  /-- `13.0`: a' = N (R126). -/
  | f13_0 (x : IndexSpec) (n : AddressBits)
  /-- `13.1`: a' = (N) (R127). -/
  | f13_1 (x : IndexSpec) (n : AddressBits)
  /-- `14.0`: not allocated (R71). -/
  | f14_0 (x : IndexSpec) (n : AddressBits)
  /-- `14.1`: (N)' = a + (N) (R128). -/
  | f14_1 (x : IndexSpec) (n : AddressBits)
  /-- `15.0`: not allocated (R71). -/
  | f15_0 (x : IndexSpec) (n : AddressBits)
  /-- `15.1`: (N)' = a - (N) (R129). -/
  | f15_1 (x : IndexSpec) (n : AddressBits)
  /-- `16.0`: not allocated (R71). -/
  | f16_0 (x : IndexSpec) (n : AddressBits)
  /-- `16.1`: (N)' = -a + (N) (R130). -/
  | f16_1 (x : IndexSpec) (n : AddressBits)
  /-- `17.0`: not allocated (R71). -/
  | f17_0 (x : IndexSpec) (n : AddressBits)
  /-- `17.1`: (N)' = a (R131). -/
  | f17_1 (x : IndexSpec) (n : AddressBits)
  -- Group 2: modifier setting, fast store and indirect
  /-- `20.0`: b' = b + n (R140). -/
  | f20_0 (x : IndexSpec) (n : AddressBits)
  /-- `20.1`: b' = b + (n) (R141). -/
  | f20_1 (x : IndexSpec) (n : AddressBits)
  /-- `21.0`: b' = b - n (R142). -/
  | f21_0 (x : IndexSpec) (n : AddressBits)
  /-- `21.1`: b' = b - (n) (R143). -/
  | f21_1 (x : IndexSpec) (n : AddressBits)
  /-- `22.0`: b' = -b + n (R144). -/
  | f22_0 (x : IndexSpec) (n : AddressBits)
  /-- `22.1`: b' = -b + (n) (R145). -/
  | f22_1 (x : IndexSpec) (n : AddressBits)
  /-- `23.0`: b' = n (R146). -/
  | f23_0 (x : IndexSpec) (n : AddressBits)
  /-- `23.1`: b' = (n) (R147). -/
  | f23_1 (x : IndexSpec) (n : AddressBits)
  /-- `24.0`: n' = b + n (R148). -/
  | f24_0 (x : IndexSpec) (n : AddressBits)
  /-- `24.1`: (n)' = b + (n) (R149). -/
  | f24_1 (x : IndexSpec) (n : AddressBits)
  /-- `25.0`: n' = b - n (R150). -/
  | f25_0 (x : IndexSpec) (n : AddressBits)
  /-- `25.1`: (n)' = b - (n) (R151). -/
  | f25_1 (x : IndexSpec) (n : AddressBits)
  /-- `26.0`: n' = -b + n (R152). -/
  | f26_0 (x : IndexSpec) (n : AddressBits)
  /-- `26.1`: (n)' = -b + (n) (R153). -/
  | f26_1 (x : IndexSpec) (n : AddressBits)
  /-- `27.0`: n' = b (R154). -/
  | f27_0 (x : IndexSpec) (n : AddressBits)
  /-- `27.1`: (n)' = b (R155). -/
  | f27_1 (x : IndexSpec) (n : AddressBits)
  -- Group 3: short arithmetic, fast store and indirect
  /-- `30.0`: a' = a + n (R160). -/
  | f30_0 (x : IndexSpec) (n : AddressBits)
  /-- `30.1`: a' = a + (n) (R161). -/
  | f30_1 (x : IndexSpec) (n : AddressBits)
  /-- `31.0`: a' = a - n (R162). -/
  | f31_0 (x : IndexSpec) (n : AddressBits)
  /-- `31.1`: a' = a - (n) (R163). -/
  | f31_1 (x : IndexSpec) (n : AddressBits)
  /-- `32.0`: a' = -a + n (R164). -/
  | f32_0 (x : IndexSpec) (n : AddressBits)
  /-- `32.1`: a' = -a + (n) (R165). -/
  | f32_1 (x : IndexSpec) (n : AddressBits)
  /-- `33.0`: a' = n (R166). -/
  | f33_0 (x : IndexSpec) (n : AddressBits)
  /-- `33.1`: a' = (n) (R167). -/
  | f33_1 (x : IndexSpec) (n : AddressBits)
  /-- `34.0`: n' = a + n (R168). -/
  | f34_0 (x : IndexSpec) (n : AddressBits)
  /-- `34.1`: (n)' = a + (n) (R169). -/
  | f34_1 (x : IndexSpec) (n : AddressBits)
  /-- `35.0`: n' = a - n (R170). -/
  | f35_0 (x : IndexSpec) (n : AddressBits)
  /-- `35.1`: (n)' = a - (n) (R171). -/
  | f35_1 (x : IndexSpec) (n : AddressBits)
  /-- `36.0`: n' = -a + n (R172). -/
  | f36_0 (x : IndexSpec) (n : AddressBits)
  /-- `36.1`: (n)' = -a + (n) (R173). -/
  | f36_1 (x : IndexSpec) (n : AddressBits)
  /-- `37.0`: n' = a (R174). -/
  | f37_0 (x : IndexSpec) (n : AddressBits)
  /-- `37.1`: (n)' = a (R175). -/
  | f37_1 (x : IndexSpec) (n : AddressBits)
  -- Group 4: transfer of control
  /-- `40`: count up: if b is not 0, b' = b + 1 and jump (R180). -/
  | f40 (m : Bool) (x : IndexSpec) (n : AddressBits)
  /-- `41`: count down: if b is not 0, b' = b - 1 and jump (R181). -/
  | f41 (m : Bool) (x : IndexSpec) (n : AddressBits)
  /-- `42`: jump if B zero (R182). -/
  | f42 (m : Bool) (x : IndexSpec) (n : AddressBits)
  /-- `43`: sub-routine jump: b' = s and jump (R183). -/
  | f43 (m : Bool) (x : IndexSpec) (n : AddressBits)
  /-- `44`: jump if a >= 0 (R184). -/
  | f44 (m : Bool) (x : IndexSpec) (n : AddressBits)
  /-- `45`: jump if a < 0 (R185). -/
  | f45 (m : Bool) (x : IndexSpec) (n : AddressBits)
  /-- `46`: jump if a = 0 (R186). -/
  | f46 (m : Bool) (x : IndexSpec) (n : AddressBits)
  /-- `47`: test overflow: clear the marker, jump if it was set (R187). -/
  | f47 (m : Bool) (x : IndexSpec) (n : AddressBits)
  -- Group 5: miscellaneous
  /-- `50`: jump (R200). -/
  | f50 (m : Bool) (x : IndexSpec) (n : AddressBits)
  /-- `51`: jump backwards: s' = s - N (R201). -/
  | f51 (m : Bool) (x : IndexSpec) (n : AddressBits)
  /-- `52.0`: collate to A: a' = a & n (R202). -/
  | f52_0 (x : IndexSpec) (n : AddressBits)
  /-- `52.1`: collate to A: a' = a & (N) (R203). -/
  | f52_1 (x : IndexSpec) (n : AddressBits)
  /-- `53.0`: send to R: r' = n (R204). -/
  | f53_0 (x : IndexSpec) (n : AddressBits)
  /-- `53.1`: send to R: r' = (N) (R205). -/
  | f53_1 (x : IndexSpec) (n : AddressBits)
  /-- `54.0`: count up in store: n' = n + 1 (R206). -/
  | f54_0 (x : IndexSpec) (n : AddressBits)
  /-- `54.1`: count up in store: (N)' = (N) + 1 (R207). -/
  | f54_1 (x : IndexSpec) (n : AddressBits)
  /-- `55.0`: count down in store: n' = n - 1 (R208). -/
  | f55_0 (x : IndexSpec) (n : AddressBits)
  /-- `55.1`: count down in store: (N)' = (N) - 1 (R209). -/
  | f55_1 (x : IndexSpec) (n : AddressBits)
  /-- `56.0`: collate to store: n' = a & n (R210). -/
  | f56_0 (x : IndexSpec) (n : AddressBits)
  /-- `56.1`: collate to store: (N)' = a & (N) (R211). -/
  | f56_1 (x : IndexSpec) (n : AddressBits)
  /-- `57.0`: R to store: n' = r (R212). -/
  | f57_0 (x : IndexSpec) (n : AddressBits)
  /-- `57.1`: R to store: (N)' = r (R213). -/
  | f57_1 (x : IndexSpec) (n : AddressBits)
  -- Group 6: long arithmetic and shifts
  /-- `60`: logical shift of A (R220). -/
  | f60 (m : Bool) (x : IndexSpec) (n : AddressBits)
  /-- `61`: single-length arithmetical shift: a' = a x 2^N (R221). -/
  | f61 (m : Bool) (x : IndexSpec) (n : AddressBits)
  /-- `62`: double-length arithmetical shift: [ar]' = [ar] x 2^N (R222). -/
  | f62 (m : Bool) (x : IndexSpec) (n : AddressBits)
  /-- `63.0`: square root: a' = sqrt(a + n) (R223). -/
  | f63_0 (x : IndexSpec) (n : AddressBits)
  /-- `63.1`: square root: a' = sqrt(a + (N)) (R224). -/
  | f63_1 (x : IndexSpec) (n : AddressBits)
  /-- `64.0`: double length multiplication: [ar]' = a x n (R225). -/
  | f64_0 (x : IndexSpec) (n : AddressBits)
  /-- `64.1`: double length multiplication: [ar]' = a x (N) (R226). -/
  | f64_1 (x : IndexSpec) (n : AddressBits)
  /-- `65.0`: rounded multiplication: a' = a x n (R227). -/
  | f65_0 (x : IndexSpec) (n : AddressBits)
  /-- `65.1`: rounded multiplication: a' = a x (N) (R228). -/
  | f65_1 (x : IndexSpec) (n : AddressBits)
  /-- `66.0`: division with remainder by n (R229). -/
  | f66_0 (x : IndexSpec) (n : AddressBits)
  /-- `66.1`: division with remainder by (N) (R230). -/
  | f66_1 (x : IndexSpec) (n : AddressBits)
  /-- `67.0`: rounded division: a' = ar/n (R231). -/
  | f67_0 (x : IndexSpec) (n : AddressBits)
  /-- `67.1`: rounded division: a' = ar/(N) (R232). -/
  | f67_1 (x : IndexSpec) (n : AddressBits)
  -- Group 7: peripheral
  /-- `70`: input and add: a' = a + T (R240). -/
  | f70 (m : Bool) (x : IndexSpec) (n : AddressBits)
  /-- `71`: not allocated (R246). -/
  | f71 (m : Bool) (x : IndexSpec) (n : AddressBits)
  /-- `72`: not allocated (R246). -/
  | f72 (m : Bool) (x : IndexSpec) (n : AddressBits)
  /-- `73`: input: a' = T (R241). -/
  | f73 (m : Bool) (x : IndexSpec) (n : AddressBits)
  /-- `74`: command to a peripheral controller (R242). -/
  | f74 (m : Bool) (x : IndexSpec) (n : AddressBits)
  /-- `75`: not allocated (R246). -/
  | f75 (m : Bool) (x : IndexSpec) (n : AddressBits)
  /-- `76`: program break (R243). -/
  | f76 (m : Bool) (x : IndexSpec) (n : AddressBits)
  /-- `77`: output of a (R244). -/
  | f77 (m : Bool) (x : IndexSpec) (n : AddressBits)
  deriving DecidableEq, Repr

end Sys2Proof
end

