-- ==== Sys2Proof/WellFormed.lean ====
section
/-! DEFINITION. Which instructions are well formed (30_encoding.md R71, R72, R77).

There are two checks.  `Instr.allocated`: the function code and mode bit select a function.
`Instr.namesIndexRegister`: a B-naming function (R64) names an index register, that is X is not 0.
Every other operand field may hold every value of its width. -/

namespace Sys2Proof

/-- The function code and mode bit select a function; false exactly on the rows of R71. -/
def Instr.allocated : Instr → Bool
  | .f00_0 _ _ => true
  | .f00_1 _ _ => true
  | .f01_0 _ _ => true
  | .f01_1 _ _ => true
  | .f02_0 _ _ => true
  | .f02_1 _ _ => true
  | .f03_0 _ _ => true
  | .f03_1 _ _ => true
  | .f04_0 _ _ => false
  | .f04_1 _ _ => true
  | .f05_0 _ _ => false
  | .f05_1 _ _ => true
  | .f06_0 _ _ => false
  | .f06_1 _ _ => true
  | .f07_0 _ _ => false
  | .f07_1 _ _ => true
  | .f10_0 _ _ => true
  | .f10_1 _ _ => true
  | .f11_0 _ _ => true
  | .f11_1 _ _ => true
  | .f12_0 _ _ => true
  | .f12_1 _ _ => true
  | .f13_0 _ _ => true
  | .f13_1 _ _ => true
  | .f14_0 _ _ => false
  | .f14_1 _ _ => true
  | .f15_0 _ _ => false
  | .f15_1 _ _ => true
  | .f16_0 _ _ => false
  | .f16_1 _ _ => true
  | .f17_0 _ _ => false
  | .f17_1 _ _ => true
  | .f20_0 _ _ => true
  | .f20_1 _ _ => true
  | .f21_0 _ _ => true
  | .f21_1 _ _ => true
  | .f22_0 _ _ => true
  | .f22_1 _ _ => true
  | .f23_0 _ _ => true
  | .f23_1 _ _ => true
  | .f24_0 _ _ => true
  | .f24_1 _ _ => true
  | .f25_0 _ _ => true
  | .f25_1 _ _ => true
  | .f26_0 _ _ => true
  | .f26_1 _ _ => true
  | .f27_0 _ _ => true
  | .f27_1 _ _ => true
  | .f30_0 _ _ => true
  | .f30_1 _ _ => true
  | .f31_0 _ _ => true
  | .f31_1 _ _ => true
  | .f32_0 _ _ => true
  | .f32_1 _ _ => true
  | .f33_0 _ _ => true
  | .f33_1 _ _ => true
  | .f34_0 _ _ => true
  | .f34_1 _ _ => true
  | .f35_0 _ _ => true
  | .f35_1 _ _ => true
  | .f36_0 _ _ => true
  | .f36_1 _ _ => true
  | .f37_0 _ _ => true
  | .f37_1 _ _ => true
  | .f40 _ _ _ => true
  | .f41 _ _ _ => true
  | .f42 _ _ _ => true
  | .f43 _ _ _ => true
  | .f44 _ _ _ => true
  | .f45 _ _ _ => true
  | .f46 _ _ _ => true
  | .f47 _ _ _ => true
  | .f50 _ _ _ => true
  | .f51 _ _ _ => true
  | .f52_0 _ _ => true
  | .f52_1 _ _ => true
  | .f53_0 _ _ => true
  | .f53_1 _ _ => true
  | .f54_0 _ _ => true
  | .f54_1 _ _ => true
  | .f55_0 _ _ => true
  | .f55_1 _ _ => true
  | .f56_0 _ _ => true
  | .f56_1 _ _ => true
  | .f57_0 _ _ => true
  | .f57_1 _ _ => true
  | .f60 _ _ _ => true
  | .f61 _ _ _ => true
  | .f62 _ _ _ => true
  | .f63_0 _ _ => true
  | .f63_1 _ _ => true
  | .f64_0 _ _ => true
  | .f64_1 _ _ => true
  | .f65_0 _ _ => true
  | .f65_1 _ _ => true
  | .f66_0 _ _ => true
  | .f66_1 _ _ => true
  | .f67_0 _ _ => true
  | .f67_1 _ _ => true
  | .f70 _ _ _ => true
  | .f71 _ _ _ => false
  | .f72 _ _ _ => false
  | .f73 _ _ _ => true
  | .f74 _ _ _ => true
  | .f75 _ _ _ => false
  | .f76 _ _ _ => true
  | .f77 _ _ _ => true

/-- The B-naming functions 00 to 07, 20 to 27, 40 to 43 (R64), in their allocated forms. -/
def Instr.bNaming : Instr → Bool
  | .f00_0 _ _ => true
  | .f00_1 _ _ => true
  | .f01_0 _ _ => true
  | .f01_1 _ _ => true
  | .f02_0 _ _ => true
  | .f02_1 _ _ => true
  | .f03_0 _ _ => true
  | .f03_1 _ _ => true
  | .f04_0 _ _ => false
  | .f04_1 _ _ => true
  | .f05_0 _ _ => false
  | .f05_1 _ _ => true
  | .f06_0 _ _ => false
  | .f06_1 _ _ => true
  | .f07_0 _ _ => false
  | .f07_1 _ _ => true
  | .f10_0 _ _ => false
  | .f10_1 _ _ => false
  | .f11_0 _ _ => false
  | .f11_1 _ _ => false
  | .f12_0 _ _ => false
  | .f12_1 _ _ => false
  | .f13_0 _ _ => false
  | .f13_1 _ _ => false
  | .f14_0 _ _ => false
  | .f14_1 _ _ => false
  | .f15_0 _ _ => false
  | .f15_1 _ _ => false
  | .f16_0 _ _ => false
  | .f16_1 _ _ => false
  | .f17_0 _ _ => false
  | .f17_1 _ _ => false
  | .f20_0 _ _ => true
  | .f20_1 _ _ => true
  | .f21_0 _ _ => true
  | .f21_1 _ _ => true
  | .f22_0 _ _ => true
  | .f22_1 _ _ => true
  | .f23_0 _ _ => true
  | .f23_1 _ _ => true
  | .f24_0 _ _ => true
  | .f24_1 _ _ => true
  | .f25_0 _ _ => true
  | .f25_1 _ _ => true
  | .f26_0 _ _ => true
  | .f26_1 _ _ => true
  | .f27_0 _ _ => true
  | .f27_1 _ _ => true
  | .f30_0 _ _ => false
  | .f30_1 _ _ => false
  | .f31_0 _ _ => false
  | .f31_1 _ _ => false
  | .f32_0 _ _ => false
  | .f32_1 _ _ => false
  | .f33_0 _ _ => false
  | .f33_1 _ _ => false
  | .f34_0 _ _ => false
  | .f34_1 _ _ => false
  | .f35_0 _ _ => false
  | .f35_1 _ _ => false
  | .f36_0 _ _ => false
  | .f36_1 _ _ => false
  | .f37_0 _ _ => false
  | .f37_1 _ _ => false
  | .f40 _ _ _ => true
  | .f41 _ _ _ => true
  | .f42 _ _ _ => true
  | .f43 _ _ _ => true
  | .f44 _ _ _ => false
  | .f45 _ _ _ => false
  | .f46 _ _ _ => false
  | .f47 _ _ _ => false
  | .f50 _ _ _ => false
  | .f51 _ _ _ => false
  | .f52_0 _ _ => false
  | .f52_1 _ _ => false
  | .f53_0 _ _ => false
  | .f53_1 _ _ => false
  | .f54_0 _ _ => false
  | .f54_1 _ _ => false
  | .f55_0 _ _ => false
  | .f55_1 _ _ => false
  | .f56_0 _ _ => false
  | .f56_1 _ _ => false
  | .f57_0 _ _ => false
  | .f57_1 _ _ => false
  | .f60 _ _ _ => false
  | .f61 _ _ _ => false
  | .f62 _ _ _ => false
  | .f63_0 _ _ => false
  | .f63_1 _ _ => false
  | .f64_0 _ _ => false
  | .f64_1 _ _ => false
  | .f65_0 _ _ => false
  | .f65_1 _ _ => false
  | .f66_0 _ _ => false
  | .f66_1 _ _ => false
  | .f67_0 _ _ => false
  | .f67_1 _ _ => false
  | .f70 _ _ _ => false
  | .f71 _ _ _ => false
  | .f72 _ _ _ => false
  | .f73 _ _ _ => false
  | .f74 _ _ _ => false
  | .f75 _ _ _ => false
  | .f76 _ _ _ => false
  | .f77 _ _ _ => false

/-- The index register specifier X of an instruction (R61). -/
def Instr.indexSpec : Instr → IndexSpec
  | .f00_0 x _ => x
  | .f00_1 x _ => x
  | .f01_0 x _ => x
  | .f01_1 x _ => x
  | .f02_0 x _ => x
  | .f02_1 x _ => x
  | .f03_0 x _ => x
  | .f03_1 x _ => x
  | .f04_0 x _ => x
  | .f04_1 x _ => x
  | .f05_0 x _ => x
  | .f05_1 x _ => x
  | .f06_0 x _ => x
  | .f06_1 x _ => x
  | .f07_0 x _ => x
  | .f07_1 x _ => x
  | .f10_0 x _ => x
  | .f10_1 x _ => x
  | .f11_0 x _ => x
  | .f11_1 x _ => x
  | .f12_0 x _ => x
  | .f12_1 x _ => x
  | .f13_0 x _ => x
  | .f13_1 x _ => x
  | .f14_0 x _ => x
  | .f14_1 x _ => x
  | .f15_0 x _ => x
  | .f15_1 x _ => x
  | .f16_0 x _ => x
  | .f16_1 x _ => x
  | .f17_0 x _ => x
  | .f17_1 x _ => x
  | .f20_0 x _ => x
  | .f20_1 x _ => x
  | .f21_0 x _ => x
  | .f21_1 x _ => x
  | .f22_0 x _ => x
  | .f22_1 x _ => x
  | .f23_0 x _ => x
  | .f23_1 x _ => x
  | .f24_0 x _ => x
  | .f24_1 x _ => x
  | .f25_0 x _ => x
  | .f25_1 x _ => x
  | .f26_0 x _ => x
  | .f26_1 x _ => x
  | .f27_0 x _ => x
  | .f27_1 x _ => x
  | .f30_0 x _ => x
  | .f30_1 x _ => x
  | .f31_0 x _ => x
  | .f31_1 x _ => x
  | .f32_0 x _ => x
  | .f32_1 x _ => x
  | .f33_0 x _ => x
  | .f33_1 x _ => x
  | .f34_0 x _ => x
  | .f34_1 x _ => x
  | .f35_0 x _ => x
  | .f35_1 x _ => x
  | .f36_0 x _ => x
  | .f36_1 x _ => x
  | .f37_0 x _ => x
  | .f37_1 x _ => x
  | .f40 _ x _ => x
  | .f41 _ x _ => x
  | .f42 _ x _ => x
  | .f43 _ x _ => x
  | .f44 _ x _ => x
  | .f45 _ x _ => x
  | .f46 _ x _ => x
  | .f47 _ x _ => x
  | .f50 _ x _ => x
  | .f51 _ x _ => x
  | .f52_0 x _ => x
  | .f52_1 x _ => x
  | .f53_0 x _ => x
  | .f53_1 x _ => x
  | .f54_0 x _ => x
  | .f54_1 x _ => x
  | .f55_0 x _ => x
  | .f55_1 x _ => x
  | .f56_0 x _ => x
  | .f56_1 x _ => x
  | .f57_0 x _ => x
  | .f57_1 x _ => x
  | .f60 _ x _ => x
  | .f61 _ x _ => x
  | .f62 _ x _ => x
  | .f63_0 x _ => x
  | .f63_1 x _ => x
  | .f64_0 x _ => x
  | .f64_1 x _ => x
  | .f65_0 x _ => x
  | .f65_1 x _ => x
  | .f66_0 x _ => x
  | .f66_1 x _ => x
  | .f67_0 x _ => x
  | .f67_1 x _ => x
  | .f70 _ x _ => x
  | .f71 _ x _ => x
  | .f72 _ x _ => x
  | .f73 _ x _ => x
  | .f74 _ x _ => x
  | .f75 _ x _ => x
  | .f76 _ x _ => x
  | .f77 _ x _ => x

/-- A B-naming function has X different from 0 (R64, R72). -/
def Instr.namesIndexRegister (i : Instr) : Bool := !i.bNaming || i.indexSpec != 0

/-- Neither refusal of the decoding procedure R77 applies. -/
def Instr.wellFormed (i : Instr) : Bool := i.allocated && i.namesIndexRegister

end Sys2Proof
end

