-- ==== Sys2Proof/Decode.lean ====
section
/-! DEFINITION. Decoding and encoding of the one instruction format (30_encoding.md R60, R61, R70, R77).

Every 20-bit word belongs to exactly one row of the opcode table, so `decode` is total and rejects no
word.  The two refusals of R77 are the two checks of WellFormed; the meanings of the refused
instructions raise them by name.  The positions of F, M and X stand here alone (R61 asks for that):
another layout changes these four definitions and nothing else. -/

namespace Sys2Proof

/-- Lowest bit of the function code F (R61; position by decision D2, log 10). -/
def Config.functionLow : Nat := 14
/-- The mode bit M (R61; position by decision D2, log 10). -/
def Config.modeLow : Nat := 13
/-- Lowest bit of the index specifier X (R61; position by decision D2, log 10). -/
def Config.indexLow : Nat := 10
/-- Lowest bit of the address bits N (R61, R65). -/
def Config.addressLow : Nat := 0

/-- The decoded fields F, M, X, N of a word (R61); F is split into its two octal digits (R62). -/
structure Fields where
  group : Fin 8
  digit : Fin 8
  m     : Bool
  x     : IndexSpec
  n     : AddressBits
  deriving DecidableEq, Repr

/-- Take a word apart (R61). -/
def splitWord (w : Word) : Fields where
  group := (w.extractLsb' (Config.functionLow + 3) 3).toFin
  digit := (w.extractLsb' Config.functionLow 3).toFin
  m     := w.getLsbD Config.modeLow
  x     := w.extractLsb' Config.indexLow 3
  n     := w.extractLsb' Config.addressLow 10

/-- Put a word together: `F x 2^14 + M x 2^13 + X x 2^10 + N` (R61). -/
def joinWord (f : Fields) : Word :=
  BitVec.ofNat 20 ((f.group.val * 8 + f.digit.val) * 2 ^ Config.functionLow
    + f.m.toNat * 2 ^ Config.modeLow + f.x.toNat * 2 ^ Config.indexLow
    + f.n.toNat * 2 ^ Config.addressLow)

/-- The rows of Group 0: modifier setting, direct and main store (R70). -/
def decodeGroup0 (digit : Fin 8) (m : Bool) (x : IndexSpec) (n : AddressBits) : Instr :=
  match digit, m with
  | 0, false => .f00_0 x n
  | 0, true => .f00_1 x n
  | 1, false => .f01_0 x n
  | 1, true => .f01_1 x n
  | 2, false => .f02_0 x n
  | 2, true => .f02_1 x n
  | 3, false => .f03_0 x n
  | 3, true => .f03_1 x n
  | 4, false => .f04_0 x n
  | 4, true => .f04_1 x n
  | 5, false => .f05_0 x n
  | 5, true => .f05_1 x n
  | 6, false => .f06_0 x n
  | 6, true => .f06_1 x n
  | 7, false => .f07_0 x n
  | 7, true => .f07_1 x n

/-- The rows of Group 1: short arithmetic, direct and main store (R70). -/
def decodeGroup1 (digit : Fin 8) (m : Bool) (x : IndexSpec) (n : AddressBits) : Instr :=
  match digit, m with
  | 0, false => .f10_0 x n
  | 0, true => .f10_1 x n
  | 1, false => .f11_0 x n
  | 1, true => .f11_1 x n
  | 2, false => .f12_0 x n
  | 2, true => .f12_1 x n
  | 3, false => .f13_0 x n
  | 3, true => .f13_1 x n
  | 4, false => .f14_0 x n
  | 4, true => .f14_1 x n
  | 5, false => .f15_0 x n
  | 5, true => .f15_1 x n
  | 6, false => .f16_0 x n
  | 6, true => .f16_1 x n
  | 7, false => .f17_0 x n
  | 7, true => .f17_1 x n

/-- The rows of Group 2: modifier setting, fast store and indirect (R70). -/
def decodeGroup2 (digit : Fin 8) (m : Bool) (x : IndexSpec) (n : AddressBits) : Instr :=
  match digit, m with
  | 0, false => .f20_0 x n
  | 0, true => .f20_1 x n
  | 1, false => .f21_0 x n
  | 1, true => .f21_1 x n
  | 2, false => .f22_0 x n
  | 2, true => .f22_1 x n
  | 3, false => .f23_0 x n
  | 3, true => .f23_1 x n
  | 4, false => .f24_0 x n
  | 4, true => .f24_1 x n
  | 5, false => .f25_0 x n
  | 5, true => .f25_1 x n
  | 6, false => .f26_0 x n
  | 6, true => .f26_1 x n
  | 7, false => .f27_0 x n
  | 7, true => .f27_1 x n

/-- The rows of Group 3: short arithmetic, fast store and indirect (R70). -/
def decodeGroup3 (digit : Fin 8) (m : Bool) (x : IndexSpec) (n : AddressBits) : Instr :=
  match digit, m with
  | 0, false => .f30_0 x n
  | 0, true => .f30_1 x n
  | 1, false => .f31_0 x n
  | 1, true => .f31_1 x n
  | 2, false => .f32_0 x n
  | 2, true => .f32_1 x n
  | 3, false => .f33_0 x n
  | 3, true => .f33_1 x n
  | 4, false => .f34_0 x n
  | 4, true => .f34_1 x n
  | 5, false => .f35_0 x n
  | 5, true => .f35_1 x n
  | 6, false => .f36_0 x n
  | 6, true => .f36_1 x n
  | 7, false => .f37_0 x n
  | 7, true => .f37_1 x n

/-- The rows of Group 4: transfer of control (R70). -/
def decodeGroup4 (digit : Fin 8) (m : Bool) (x : IndexSpec) (n : AddressBits) : Instr :=
  match digit, m with
  | 0, m => .f40 m x n
  | 1, m => .f41 m x n
  | 2, m => .f42 m x n
  | 3, m => .f43 m x n
  | 4, m => .f44 m x n
  | 5, m => .f45 m x n
  | 6, m => .f46 m x n
  | 7, m => .f47 m x n

/-- The rows of Group 5: miscellaneous (R70). -/
def decodeGroup5 (digit : Fin 8) (m : Bool) (x : IndexSpec) (n : AddressBits) : Instr :=
  match digit, m with
  | 0, m => .f50 m x n
  | 1, m => .f51 m x n
  | 2, false => .f52_0 x n
  | 2, true => .f52_1 x n
  | 3, false => .f53_0 x n
  | 3, true => .f53_1 x n
  | 4, false => .f54_0 x n
  | 4, true => .f54_1 x n
  | 5, false => .f55_0 x n
  | 5, true => .f55_1 x n
  | 6, false => .f56_0 x n
  | 6, true => .f56_1 x n
  | 7, false => .f57_0 x n
  | 7, true => .f57_1 x n

/-- The rows of Group 6: long arithmetic and shifts (R70). -/
def decodeGroup6 (digit : Fin 8) (m : Bool) (x : IndexSpec) (n : AddressBits) : Instr :=
  match digit, m with
  | 0, m => .f60 m x n
  | 1, m => .f61 m x n
  | 2, m => .f62 m x n
  | 3, false => .f63_0 x n
  | 3, true => .f63_1 x n
  | 4, false => .f64_0 x n
  | 4, true => .f64_1 x n
  | 5, false => .f65_0 x n
  | 5, true => .f65_1 x n
  | 6, false => .f66_0 x n
  | 6, true => .f66_1 x n
  | 7, false => .f67_0 x n
  | 7, true => .f67_1 x n

/-- The rows of Group 7: peripheral (R70). -/
def decodeGroup7 (digit : Fin 8) (m : Bool) (x : IndexSpec) (n : AddressBits) : Instr :=
  match digit, m with
  | 0, m => .f70 m x n
  | 1, m => .f71 m x n
  | 2, m => .f72 m x n
  | 3, m => .f73 m x n
  | 4, m => .f74 m x n
  | 5, m => .f75 m x n
  | 6, m => .f76 m x n
  | 7, m => .f77 m x n

/-- The instruction with the given fields: the complete map of R70. -/
def ofFields (f : Fields) : Instr :=
  match f.group with
  | 0 => decodeGroup0 f.digit f.m f.x f.n
  | 1 => decodeGroup1 f.digit f.m f.x f.n
  | 2 => decodeGroup2 f.digit f.m f.x f.n
  | 3 => decodeGroup3 f.digit f.m f.x f.n
  | 4 => decodeGroup4 f.digit f.m f.x f.n
  | 5 => decodeGroup5 f.digit f.m f.x f.n
  | 6 => decodeGroup6 f.digit f.m f.x f.n
  | 7 => decodeGroup7 f.digit f.m f.x f.n

/-- Decode one instruction word; total on every word (R77). -/
def decode (w : Word) : Instr := ofFields (splitWord w)

/-- The fields of an instruction (R61, R70). -/
def toFields : Instr → Fields
  | .f00_0 x n => ⟨0, 0, false, x, n⟩
  | .f00_1 x n => ⟨0, 0, true, x, n⟩
  | .f01_0 x n => ⟨0, 1, false, x, n⟩
  | .f01_1 x n => ⟨0, 1, true, x, n⟩
  | .f02_0 x n => ⟨0, 2, false, x, n⟩
  | .f02_1 x n => ⟨0, 2, true, x, n⟩
  | .f03_0 x n => ⟨0, 3, false, x, n⟩
  | .f03_1 x n => ⟨0, 3, true, x, n⟩
  | .f04_0 x n => ⟨0, 4, false, x, n⟩
  | .f04_1 x n => ⟨0, 4, true, x, n⟩
  | .f05_0 x n => ⟨0, 5, false, x, n⟩
  | .f05_1 x n => ⟨0, 5, true, x, n⟩
  | .f06_0 x n => ⟨0, 6, false, x, n⟩
  | .f06_1 x n => ⟨0, 6, true, x, n⟩
  | .f07_0 x n => ⟨0, 7, false, x, n⟩
  | .f07_1 x n => ⟨0, 7, true, x, n⟩
  | .f10_0 x n => ⟨1, 0, false, x, n⟩
  | .f10_1 x n => ⟨1, 0, true, x, n⟩
  | .f11_0 x n => ⟨1, 1, false, x, n⟩
  | .f11_1 x n => ⟨1, 1, true, x, n⟩
  | .f12_0 x n => ⟨1, 2, false, x, n⟩
  | .f12_1 x n => ⟨1, 2, true, x, n⟩
  | .f13_0 x n => ⟨1, 3, false, x, n⟩
  | .f13_1 x n => ⟨1, 3, true, x, n⟩
  | .f14_0 x n => ⟨1, 4, false, x, n⟩
  | .f14_1 x n => ⟨1, 4, true, x, n⟩
  | .f15_0 x n => ⟨1, 5, false, x, n⟩
  | .f15_1 x n => ⟨1, 5, true, x, n⟩
  | .f16_0 x n => ⟨1, 6, false, x, n⟩
  | .f16_1 x n => ⟨1, 6, true, x, n⟩
  | .f17_0 x n => ⟨1, 7, false, x, n⟩
  | .f17_1 x n => ⟨1, 7, true, x, n⟩
  | .f20_0 x n => ⟨2, 0, false, x, n⟩
  | .f20_1 x n => ⟨2, 0, true, x, n⟩
  | .f21_0 x n => ⟨2, 1, false, x, n⟩
  | .f21_1 x n => ⟨2, 1, true, x, n⟩
  | .f22_0 x n => ⟨2, 2, false, x, n⟩
  | .f22_1 x n => ⟨2, 2, true, x, n⟩
  | .f23_0 x n => ⟨2, 3, false, x, n⟩
  | .f23_1 x n => ⟨2, 3, true, x, n⟩
  | .f24_0 x n => ⟨2, 4, false, x, n⟩
  | .f24_1 x n => ⟨2, 4, true, x, n⟩
  | .f25_0 x n => ⟨2, 5, false, x, n⟩
  | .f25_1 x n => ⟨2, 5, true, x, n⟩
  | .f26_0 x n => ⟨2, 6, false, x, n⟩
  | .f26_1 x n => ⟨2, 6, true, x, n⟩
  | .f27_0 x n => ⟨2, 7, false, x, n⟩
  | .f27_1 x n => ⟨2, 7, true, x, n⟩
  | .f30_0 x n => ⟨3, 0, false, x, n⟩
  | .f30_1 x n => ⟨3, 0, true, x, n⟩
  | .f31_0 x n => ⟨3, 1, false, x, n⟩
  | .f31_1 x n => ⟨3, 1, true, x, n⟩
  | .f32_0 x n => ⟨3, 2, false, x, n⟩
  | .f32_1 x n => ⟨3, 2, true, x, n⟩
  | .f33_0 x n => ⟨3, 3, false, x, n⟩
  | .f33_1 x n => ⟨3, 3, true, x, n⟩
  | .f34_0 x n => ⟨3, 4, false, x, n⟩
  | .f34_1 x n => ⟨3, 4, true, x, n⟩
  | .f35_0 x n => ⟨3, 5, false, x, n⟩
  | .f35_1 x n => ⟨3, 5, true, x, n⟩
  | .f36_0 x n => ⟨3, 6, false, x, n⟩
  | .f36_1 x n => ⟨3, 6, true, x, n⟩
  | .f37_0 x n => ⟨3, 7, false, x, n⟩
  | .f37_1 x n => ⟨3, 7, true, x, n⟩
  | .f40 m x n => ⟨4, 0, m, x, n⟩
  | .f41 m x n => ⟨4, 1, m, x, n⟩
  | .f42 m x n => ⟨4, 2, m, x, n⟩
  | .f43 m x n => ⟨4, 3, m, x, n⟩
  | .f44 m x n => ⟨4, 4, m, x, n⟩
  | .f45 m x n => ⟨4, 5, m, x, n⟩
  | .f46 m x n => ⟨4, 6, m, x, n⟩
  | .f47 m x n => ⟨4, 7, m, x, n⟩
  | .f50 m x n => ⟨5, 0, m, x, n⟩
  | .f51 m x n => ⟨5, 1, m, x, n⟩
  | .f52_0 x n => ⟨5, 2, false, x, n⟩
  | .f52_1 x n => ⟨5, 2, true, x, n⟩
  | .f53_0 x n => ⟨5, 3, false, x, n⟩
  | .f53_1 x n => ⟨5, 3, true, x, n⟩
  | .f54_0 x n => ⟨5, 4, false, x, n⟩
  | .f54_1 x n => ⟨5, 4, true, x, n⟩
  | .f55_0 x n => ⟨5, 5, false, x, n⟩
  | .f55_1 x n => ⟨5, 5, true, x, n⟩
  | .f56_0 x n => ⟨5, 6, false, x, n⟩
  | .f56_1 x n => ⟨5, 6, true, x, n⟩
  | .f57_0 x n => ⟨5, 7, false, x, n⟩
  | .f57_1 x n => ⟨5, 7, true, x, n⟩
  | .f60 m x n => ⟨6, 0, m, x, n⟩
  | .f61 m x n => ⟨6, 1, m, x, n⟩
  | .f62 m x n => ⟨6, 2, m, x, n⟩
  | .f63_0 x n => ⟨6, 3, false, x, n⟩
  | .f63_1 x n => ⟨6, 3, true, x, n⟩
  | .f64_0 x n => ⟨6, 4, false, x, n⟩
  | .f64_1 x n => ⟨6, 4, true, x, n⟩
  | .f65_0 x n => ⟨6, 5, false, x, n⟩
  | .f65_1 x n => ⟨6, 5, true, x, n⟩
  | .f66_0 x n => ⟨6, 6, false, x, n⟩
  | .f66_1 x n => ⟨6, 6, true, x, n⟩
  | .f67_0 x n => ⟨6, 7, false, x, n⟩
  | .f67_1 x n => ⟨6, 7, true, x, n⟩
  | .f70 m x n => ⟨7, 0, m, x, n⟩
  | .f71 m x n => ⟨7, 1, m, x, n⟩
  | .f72 m x n => ⟨7, 2, m, x, n⟩
  | .f73 m x n => ⟨7, 3, m, x, n⟩
  | .f74 m x n => ⟨7, 4, m, x, n⟩
  | .f75 m x n => ⟨7, 5, m, x, n⟩
  | .f76 m x n => ⟨7, 6, m, x, n⟩
  | .f77 m x n => ⟨7, 7, m, x, n⟩

/-- Encode an instruction as its one word (R61). -/
def encode (i : Instr) : Word := joinWord (toFields i)

/-- The instruction the decoder reads from an instruction whose bits are `w`, of which the table gives
`nbits` (bit 0 the least significant).  A location holds one word of 20 bits and there is no byte order
(20_memory.md R40, R41): a number of more than 20 bits is no word of this machine and is refused. -/
def decodeTableWord (nbits w : Nat) : Option Instr :=
  if w % 2 ^ nbits < 2 ^ 20 then some (decode (BitVec.ofNat 20 (w % 2 ^ nbits))) else none

end Sys2Proof
end

