-- ==== Sys2Proof/Config.lean ====
section
/-! DEFINITION. The free values of the model: constants without a body, so that nothing can be proved of
what they are.  Each is applied to the plain counter `State.freeCount`, which every use advances, so that
every use is a fresh value.  The store sizes, open parameters of the spec (00_scope.md R4), are arguments
of a launch (70_reset_and_hazards.md R281) and stand in `State`. -/

namespace Sys2Proof

/-- The word an input device delivers: "a free 20-bit input of the step supplied by the environment"
(00_scope.md R8, `draw`; 47_group7_peripheral.md R245).  Log 27. -/
opaque Config.deviceInput : Nat → Word

/-- A word the spec calls "unspecified (any value)": A after a square root outside its domain
(46_group6_long_arith_shifts.md R223, R224), A and R after a division out of scale (R229 to R232).
Log 20 and 23. -/
opaque Config.unspecifiedWord : Nat → Word

end Sys2Proof
end

