-- ==== Sys2Proof/Machine/State.lean ====
section
/-! DEFINITION. The state of the CCS 502 as plain data (10_state.md R20 to R37), the reasons a step can
stop, a launch and the reset state. -/

namespace Sys2Proof.Machine

/-- The two stores, which are separate address spaces (10_state.md R33, R34). -/
inductive StoreName where
  /-- The fast store FS. -/
  | fast
  /-- The main store MS. -/
  | main
  deriving DecidableEq, Repr

/-- A location number of a store (20_memory.md R40, R43). -/
structure Loc where
  store  : StoreName
  number : Nat
  deriving DecidableEq, Repr

/-- Why a step faults.  The hardware raises no synchronous exception (60_exceptions.md R262): these are
the places where the spec gives a step no successor because a location does not exist or the run is over. -/
inductive Fault where
  /-- Raised by a fetch, an operand access or the advance of S that names a location at or beyond the
  size of its store: `Refused(AddressOutOfRange(store, k))` of 60_exceptions.md R260.  Safe: the model
  stops where the machine might wrap, alias or fault (log 7). -/
  | addressOutOfRange (loc : Loc)
  /-- Raised by a step asked of a run that a program break (function 76) has ended: "no further
  instruction of this programme is executed in this run" (47_group7_peripheral.md R243).  Safe (log 30). -/
  | programmeEnded
  deriving DecidableEq, Repr

/-- Why a step is refused: the refusals of 60_exceptions.md R260 that concern the instruction itself. -/
inductive Refusal where
  /-- Raised by an instruction that has no meaning in the model yet, in `exec`'s arm only.  Safe: the
  model says nothing of it. -/
  | notModelled (mnemonic : String)
  /-- Raised when the function code and mode bit select no function: `Refused(Unallocated(F, M))`
  (30_encoding.md R71).  Safe: the machine would do something, the model does not say what (log 8). -/
  | unallocated (f : FunctionCode) (m : Bool)
  /-- Raised when a B-naming function has X = 0: `Refused(NoIndexRegisterNamed)` (30_encoding.md R64,
  R72).  Safe: as above (log 9). -/
  | noIndexRegisterNamed
  deriving DecidableEq, Repr

/-- The reason a run was marked refused with (60_exceptions.md R260, 10_state.md R37). -/
inductive Stop where
  | fault (r : Fault)
  | refusal (r : Refusal)
  deriving DecidableEq, Repr

/-- The device fields E, P, D of Group 7 (30_encoding.md R68). -/
structure Device where
  e : BitVec 1
  p : BitVec 5
  d : BitVec 4
  deriving DecidableEq, Repr

/-- The events of a run's history (47_group7_peripheral.md R247). -/
inductive Event where
  /-- An input of word `t` from device (E, P, D) by 70 or 73. -/
  | devIn (dev : Device) (t : Word)
  /-- An output of word `v` to device (E, P, D) by 77. -/
  | devOut (dev : Device) (v : Word)
  /-- A command P to the controller (E, D) by 74. -/
  | devCmd (e : BitVec 1) (d : BitVec 4) (p : BitVec 5)
  /-- A program break by 76 with re-entry at location `k` of store `f`. -/
  | programBreak (f : StoreName) (k : Address)
  deriving DecidableEq, Repr

/-- The contents of a store: the locations that do not read as `unlistedWord`, by number (20_memory.md
R40, R41: the unit is a 20-bit word and there are no bytes; log 1). -/
abbrev Memory := List (Nat × Word)

/-- What a location that is not listed reads as.  DESIGN CHOICE (log 2): the spec gives no launch content
(70_reset_and_hazards.md R280); every content of a store can be listed, so this is a choice about
`State.reset` and not about the machine. -/
def unlistedWord : Word := 0

/-- The canonical form: location numbers strictly rising, and nothing listed that reads as if unlisted. -/
abbrev Memory.wf (mem : Memory) : Prop :=
  mem.Pairwise (fun p q => p.1 < q.1) ∧ ∀ p ∈ mem, p.2 ≠ unlistedWord

/-- The seven index registers B[1] to B[7] (10_state.md R22); B[0] does not exist (R24). -/
structure IndexRegs where
  b1 : Word
  b2 : Word
  b3 : Word
  b4 : Word
  b5 : Word
  b6 : Word
  b7 : Word
  deriving DecidableEq, Repr

structure State where
  /-- The Accumulator A (10_state.md R20). -/
  a : Word
  /-- The Auxiliary register R (R21). -/
  r : Word
  /-- The index registers B[1] to B[7] (R22). -/
  b : IndexRegs
  /-- The store bit S.f of the Sequence Control register (R26). -/
  sf : StoreName
  /-- The location number S.a of the Sequence Control register (R26). -/
  sa : Address
  /-- The overflow marker OVR (R29). -/
  ovr : Bool
  /-- The fast store FS (R33). -/
  fs : Memory
  /-- The main store MS (R34). -/
  ms : Memory
  /-- FAST_SIZE, a parameter of the launch (00_scope.md R4, 70_reset_and_hazards.md R281). -/
  fastSize : Nat
  /-- MAIN_SIZE, a parameter of the launch (00_scope.md R4, 70_reset_and_hazards.md R281). -/
  mainSize : Nat
  /-- The event history, oldest first (R37; 47_group7_peripheral.md R247). -/
  events : List Event
  /-- The Refused mark (R37; 60_exceptions.md R260). -/
  refusedMark : Option Stop
  /-- The model's own: a program break has ended the run (the `halt` of 47_group7_peripheral.md R243). -/
  ended : Bool
  /-- The model's own: words the environment has already supplied for the inputs to come, next first. -/
  inputs : List Word
  /-- The model's own: how many free values the run has taken; the argument of Config's free values. -/
  freeCount : Nat
  deriving DecidableEq, Repr

/-- A launch (70_reset_and_hazards.md R281): the arguments are the launch state; the event history is
empty and the run is neither refused nor ended. -/
def State.launch (a r : Word) (b : IndexRegs) (ovr : Bool) (sf : StoreName) (sa : Address)
    (fs ms : Memory) (fastSize mainSize : Nat) (inputs : List Word) (freeCount : Nat) : State where
  a := a
  r := r
  b := b
  sf := sf
  sa := sa
  ovr := ovr
  fs := fs
  ms := ms
  fastSize := fastSize
  mainSize := mainSize
  events := []
  refusedMark := none
  ended := false
  inputs := inputs
  freeCount := freeCount

/-- The state after reset.  The spec gives no piece of state a reset value (70_reset_and_hazards.md R280),
so this is the launch the assumption log names (DESIGN CHOICE, log 2, 3, 4, 37): every register zero, OVR
clear, S at location 0 of the fast store, nothing listed in either store, FAST_SIZE 1024 and MAIN_SIZE
4096 (the sizes of the spec's examples). -/
def State.reset : State :=
  State.launch 0 0 ⟨0, 0, 0, 0, 0, 0, 0⟩ false .fast 0 [] [] 1024 4096 [] 0

end Sys2Proof.Machine
end

