-- ==== Sys2Proof/Machine/Ops.lean ====
section
/-! DEFINITION. The named operations over registers, stores, events and free values.

This machine takes no exception and returns from none: "There is no trap entry in the model and none in
the source" and "There is no return-from-trap instruction" (60_exceptions.md R262, R265).  In their place
stand the refusals of R260, raised by the access operations and by the meanings, and the program break of
function 76 (`State.programBreak`). -/

namespace Sys2Proof.Machine

/-- The outcome of an instruction or of a step. -/
abbrev Result := Host.Outcome State Fault Refusal

/-! ### Stores (20_memory.md R43) -/

/-- The word at location `k`. -/
def Memory.read : Memory → Nat → Word
  | [], _ => unlistedWord
  | (j, v) :: rest, k => if j = k then v else Memory.read rest k

/-- `v` put at location `k`, in canonical form: writing what an unlisted location reads as removes the
entry. -/
def Memory.write : Memory → Nat → Word → Memory
  | [], k, v => if v = unlistedWord then [] else [(k, v)]
  | (j, w) :: rest, k, v =>
    if k < j then
      if v = unlistedWord then (j, w) :: rest else (k, v) :: (j, w) :: rest
    else if k = j then
      if v = unlistedWord then rest else (k, v) :: rest
    else (j, w) :: Memory.write rest k v

/-- FAST_SIZE or MAIN_SIZE. -/
def State.size (s : State) : StoreName → Nat
  | .fast => s.fastSize
  | .main => s.mainSize

/-- The location exists: its number is below the size of its store (R43, R46). -/
def State.hasLoc (s : State) (l : Loc) : Bool := l.number < s.size l.store

/-- The word a location holds. -/
def State.peek (s : State) (l : Loc) : Word :=
  match l.store with
  | .fast => Memory.read s.fs l.number
  | .main => Memory.read s.ms l.number

/-- The state with word `v` at a location. -/
def State.poke (s : State) (l : Loc) (v : Word) : State :=
  { s with
    fs := match l.store with
      | .fast => Memory.write s.fs l.number v
      | .main => s.fs
    ms := match l.store with
      | .fast => s.ms
      | .main => Memory.write s.ms l.number v }

/-- `MemRead(l, 1)`: go on with the word at `l`, or stop with AddressOutOfRange (R43). -/
def loadWord (l : Loc) (s : State) (next : Word → Result) : Result :=
  if s.hasLoc l then next (s.peek l) else .fault (.addressOutOfRange l)

/-- `MemWrite(l, 1, v)`: the state with `v` at `l`, or stop with AddressOutOfRange (R43). -/
def storeWord (l : Loc) (v : Word) (s : State) : Result :=
  if s.hasLoc l then .next (s.poke l v) else .fault (.addressOutOfRange l)

/-! ### Index registers (10_state.md R22, R24) -/

/-- The content of B[x].  B[0] does not exist and reads as "no modifier", value zero (R24). -/
def IndexRegs.get (b : IndexRegs) (x : IndexSpec) : Word :=
  match x.toNat with
  | 1 => b.b1
  | 2 => b.b2
  | 3 => b.b3
  | 4 => b.b4
  | 5 => b.b5
  | 6 => b.b6
  | 7 => b.b7
  | _ => 0

/-- B[x] set to `v`.  B[0] cannot be written (R24). -/
def IndexRegs.set (b : IndexRegs) (x : IndexSpec) (v : Word) : IndexRegs :=
  match x.toNat with
  | 1 => { b with b1 := v }
  | 2 => { b with b2 := v }
  | 3 => { b with b3 := v }
  | 4 => { b with b4 := v }
  | 5 => { b with b5 := v }
  | 6 => { b with b6 := v }
  | 7 => { b with b7 := v }
  | _ => b

/-! ### Registers -/

/-- A set to `v`. -/
def State.setA (s : State) (v : Word) : State := { s with a := v }

/-- R set to `v`. -/
def State.setR (s : State) (v : Word) : State := { s with r := v }

/-- B[x] set to `v`. -/
def State.setB (s : State) (x : IndexSpec) (v : Word) : State := { s with b := s.b.set x v }

/-- The overflow marker set to `v`. -/
def State.putOvr (s : State) (v : Bool) : State := { s with ovr := v }

/-- `pc <- (f, k)` (00_scope.md R8). -/
def State.setS (s : State) (f : StoreName) (k : Address) : State := { s with sf := f, sa := k }

/-- A B-naming function: refused when X = 0 (30_encoding.md R64, R72). -/
def namingIndex (x : IndexSpec) (r : Result) : Result :=
  if x = 0 then .refused .noIndexRegisterNamed else r

/-! ### Sequencing (10_state.md R27) -/

/-- The location of the next instruction. -/
def State.here (s : State) : Loc := ⟨s.sf, s.sa.toNat⟩

/-- `S.a <- here + 1`, S.f unchanged; stops where `here + 1` does not fit the 19 bits of S.a (R27). -/
def advanceS (s : State) (next : State → Result) : Result :=
  if s.sa.toNat + 1 < 2 ^ 19 then next (s.setS s.sf (s.sa + 1))
  else .fault (.addressOutOfRange ⟨s.sf, 2 ^ 19⟩)

/-- No step is taken of a run that is marked refused (60_exceptions.md R260) or that a program break has
ended (47_group7_peripheral.md R243). -/
def whenRunning (s : State) (r : Result) : Result :=
  match s.refusedMark with
  | some (.fault f) => .fault f
  | some (.refusal f) => .refused f
  | none => if s.ended then .fault .programmeEnded else r

/-- Fetch the word at S, then advance S (R27; the order of the checks is 60_exceptions.md R261). -/
def fetch (s : State) (next : Word → State → Result) : Result :=
  loadWord s.here s fun w => advanceS s fun s' => next w s'

/-! ### Events (47_group7_peripheral.md R247) -/

/-- `emit e`: the event recorded at the end of the history. -/
def State.emit (s : State) (e : Event) : State := { s with events := s.events ++ [e] }

/-- The program break of function 76 (R243): the re-entry point in S and in the event, and the run
ends. -/
def State.programBreak (s : State) (f : StoreName) (k : Address) : State :=
  { (s.setS f k).emit (.programBreak f k) with ended := true }

/-! ### Free values -/

/-- The word the next input draws: the next of those the environment has already supplied, else a free
value (47_group7_peripheral.md R245; log 27). -/
def State.nextInput (s : State) : Word :=
  match s.inputs with
  | t :: _ => t
  | [] => Config.deviceInput s.freeCount

/-- The state after a draw. -/
def State.takeInput (s : State) : State :=
  { s with
    inputs := s.inputs.tail
    freeCount := match s.inputs with
      | _ :: _ => s.freeCount
      | [] => s.freeCount + 1 }

/-- The state after drawing a word from a device: the draw taken and `DevIn` recorded (R240, R241). -/
def State.drawFrom (s : State) (dev : Device) : State := s.takeInput.emit (.devIn dev s.nextInput)

/-- `DevCmd(E, D, P)`: the P bits sent to the controller that E and D name (R242). -/
def State.command (s : State) (dev : Device) : State := s.emit (.devCmd dev.e dev.d dev.p)

/-- The `j`-th unspecified word of this instruction (log 20, 23). -/
def State.unspecified (s : State) (j : Nat) : Word := Config.unspecifiedWord (s.freeCount + j)

/-- `k` unspecified words have been used. -/
def State.spendFree (s : State) (k : Nat) : State := { s with freeCount := s.freeCount + k }

end Sys2Proof.Machine
end

