-- ==== Sys2Proof/Machine/Flags.lean ====
section
/-! DEFINITION. Integer values of words and the overflow marker (00_scope.md R6, R8, R9; 10_state.md R29).
The overflow marker is the only flag (10_state.md R30). -/

namespace Sys2Proof.Machine

/-- `sv(w)`: the two's complement integer of a word (00_scope.md R6). -/
def sv (w : Word) : Int := w.toInt

/-- `wrap20(z)`: the word `w` with `u(w) = z mod 2^20` (00_scope.md R8). -/
def wrap20 (z : Int) : Word := BitVec.ofInt 20 z

/-- `inrange20(z)`: `-2^19 <= z <= 2^19 - 1` (00_scope.md R8). -/
def inRange20 (z : Int) : Bool := -2 ^ 19 ≤ z && z ≤ 2 ^ 19 - 1

/-- The range of the 39-bit double-length register (10_state.md R23). -/
def inRange39 (z : Int) : Bool := -2 ^ 38 ≤ z && z ≤ 2 ^ 38 - 1

/-- Set the marker where `outside` holds; never clear it (R29). -/
def State.markWhen (s : State) (outside : Bool) : State := s.putOvr (s.ovr || outside)

/-- `setovr(z)` (00_scope.md R9). -/
def State.setOvr (s : State) (z : Int) : State := s.markWhen (!inRange20 z)

end Sys2Proof.Machine
end

