-- ==== Sys2Proof/Machine/Operands.lean ====
section
/-! DEFINITION. Operand assembly and the operand forms (30_encoding.md R64 to R69, 20_memory.md R45), and
the ways an instruction uses them. -/

namespace Sys2Proof.Machine

/-! ### The modified operand -/

/-- `Nm` of a B-naming function: N alone (R66). -/
def plainN (n : AddressBits) : Word := n.setWidth 20

/-- `Nm` of every other function: N plus the content of B[X] on 20 bits, N alone when X = 0 (R66). -/
def modifiedN (s : State) (x : IndexSpec) (n : AddressBits) : Word :=
  if x = 0 then plainN n else plainN n + s.b.get x

/-- `addr(w)`: the low 19 bits (20_memory.md R45). -/
def addr (w : Word) : Address := w.setWidth 19

/-- The low ten bits of the modified operand, as a number. -/
def lowTen (nm : Word) : Nat := (nm.extractLsb' 0 10).toNat

/-- The shift count of 60, 61, 62 from the low ten bits of the modified operand (R67, R233): bit 9 is the
sign, the low six bits of the number or of its two's complement are the size. -/
def shiftCount (nm : Word) : Int :=
  if nm.getLsbD 9 then -(((1024 - lowTen nm) % 1024 % 64 : Nat) : Int) else ((lowTen nm % 64 : Nat) : Int)

/-- The device fields of 70, 73, 74, 77 from the low ten bits of the modified operand (R68). -/
def deviceOf (nm : Word) : Device where
  e := nm.extractLsb' 9 1
  p := nm.extractLsb' 4 5
  d := nm.extractLsb' 0 4

/-- The store a mode bit names: 0 the fast store, 1 the main store (R63). -/
def storeOfMode (m : Bool) : StoreName := if m then .main else .fast

/-! ### Store operands (R69) -/

/-- The three forms of a store operand (00_scope.md R5). -/
inductive Form where
  /-- `n`: the fast-store location. -/
  | fast
  /-- `(N)`: the main-store location. -/
  | main
  /-- `(n)`: the main-store location whose number the fast-store location holds. -/
  | indirect
  deriving DecidableEq, Repr

/-- The fast-store location the address bits name. -/
def fastLoc (nm : Word) : Loc := ⟨.fast, (addr nm).toNat⟩

/-- The main-store location the address bits name. -/
def mainLoc (nm : Word) : Loc := ⟨.main, (addr nm).toNat⟩

/-- The operand location of a form. -/
def location (form : Form) (nm : Word) (s : State) : Loc :=
  match form with
  | .fast => fastLoc nm
  | .main => mainLoc nm
  | .indirect => mainLoc (s.peek (fastLoc nm))

/-- The fast-store location that holds an indirect address exists; nothing to check in the other forms. -/
def holderExists (form : Form) (nm : Word) (s : State) : Bool :=
  match form with
  | .indirect => s.hasLoc (fastLoc nm)
  | _ => true

/-- Go on with the operand location; the holder of an indirect address is checked first
(60_exceptions.md R261). -/
def locate (form : Form) (nm : Word) (s : State) (next : Loc → Result) : Result :=
  if holderExists form nm s then next (location form nm s)
  else .fault (.addressOutOfRange (fastLoc nm))

/-- Read the operand word. -/
def withOperand (form : Form) (nm : Word) (s : State) (next : Word → Result) : Result :=
  locate form nm s fun l => loadWord l s next

/-- Write a word to the operand location, which is not read. -/
def storeOperand (form : Form) (nm : Word) (v : Word) (s : State) : Result :=
  locate form nm s fun l => storeWord l v s

/-- Read the operand word `v` and write `f v` back to the same location; all reads come before the write
(20_memory.md R44). -/
def updateOperand (form : Form) (nm : Word) (s : State) (f : Word → Word) : Result :=
  locate form nm s fun l => loadWord l s fun v => storeWord l (f v) s

/-! ### Sums: the exact result sets the marker, its low 20 bits are written (R9, decision D8) -/

/-- The sum `z` into A. -/
def sumToA (z : Int) (s : State) : Result := .next ((s.setOvr z).setA (wrap20 z))

/-- The sum `z` into B[x]. -/
def sumToB (x : IndexSpec) (z : Int) (s : State) : Result := .next ((s.setOvr z).setB x (wrap20 z))

/-- The sum `f v` of the operand word `v` back into the operand location. -/
def sumToOperand (form : Form) (nm : Word) (s : State) (f : Int → Int) : Result :=
  locate form nm s fun l => loadWord l s fun v => storeWord l (wrap20 (f (sv v))) (s.setOvr (f (sv v)))

/-! ### Transfers of control -/

/-- `jump(M, Nm)` (44_group4_transfer_control.md R188). -/
def State.jump (s : State) (m : Bool) (nm : Word) : State := s.setS (storeOfMode m) (addr nm)

/-- The content of S as function 43 saves it: the store bit in the sign digit, the location number below
(R183, 10_state.md R26). -/
def State.link (s : State) : Word :=
  BitVec.ofNat 20 ((match s.sf with | .fast => 0 | .main => 1) * 2 ^ 19 + s.sa.toNat)

end Sys2Proof.Machine
end

