-- ==== Sys2Proof/Machine/Group0.lean ====
section
/-! DEFINITION. Group 0: modifier setting instructions, direct and main store addresses (R100 to R111).
B-naming: B is B[X], the address is not modified, X = 0 is refused (30_encoding.md R64, R66). -/

namespace Sys2Proof.Machine

/-- `00.0`: b' = b + N (R100). -/
def execF00_0 (x : IndexSpec) (n : AddressBits) (s : State) : Result :=
  namingIndex x (sumToB x (sv (s.b.get x) + sv (plainN n)) s)

/-- `00.1`: b' = b + (N) (R101). -/
def execF00_1 (x : IndexSpec) (n : AddressBits) (s : State) : Result :=
  namingIndex x (withOperand .main (plainN n) s fun v => sumToB x (sv (s.b.get x) + sv v) s)

/-- `01.0`: b' = b - N (R102). -/
def execF01_0 (x : IndexSpec) (n : AddressBits) (s : State) : Result :=
  namingIndex x (sumToB x (sv (s.b.get x) - sv (plainN n)) s)

/-- `01.1`: b' = b - (N) (R103). -/
def execF01_1 (x : IndexSpec) (n : AddressBits) (s : State) : Result :=
  namingIndex x (withOperand .main (plainN n) s fun v => sumToB x (sv (s.b.get x) - sv v) s)

/-- `02.0`: b' = -b + N (R104). -/
def execF02_0 (x : IndexSpec) (n : AddressBits) (s : State) : Result :=
  namingIndex x (sumToB x (-sv (s.b.get x) + sv (plainN n)) s)

/-- `02.1`: b' = -b + (N) (R105). -/
def execF02_1 (x : IndexSpec) (n : AddressBits) (s : State) : Result :=
  namingIndex x (withOperand .main (plainN n) s fun v => sumToB x (-sv (s.b.get x) + sv v) s)

/-- `03.0`: b' = N (R106). -/
def execF03_0 (x : IndexSpec) (n : AddressBits) (s : State) : Result :=
  namingIndex x (.next (s.setB x (plainN n)))

/-- `03.1`: b' = (N) (R107). -/
def execF03_1 (x : IndexSpec) (n : AddressBits) (s : State) : Result :=
  namingIndex x (withOperand .main (plainN n) s fun v => .next (s.setB x v))

/-- `04.0`: not allocated (R71). -/
def execF04_0 (_x : IndexSpec) (_n : AddressBits) (_s : State) : Result :=
  .refused (.unallocated 0o04 false)

/-- `04.1`: (N)' = b + (N) (R108). -/
def execF04_1 (x : IndexSpec) (n : AddressBits) (s : State) : Result :=
  namingIndex x (sumToOperand .main (plainN n) s fun v => sv (s.b.get x) + v)

/-- `05.0`: not allocated (R71). -/
def execF05_0 (_x : IndexSpec) (_n : AddressBits) (_s : State) : Result :=
  .refused (.unallocated 0o05 false)

/-- `05.1`: (N)' = b - (N) (R109). -/
def execF05_1 (x : IndexSpec) (n : AddressBits) (s : State) : Result :=
  namingIndex x (sumToOperand .main (plainN n) s fun v => sv (s.b.get x) - v)

/-- `06.0`: not allocated (R71). -/
def execF06_0 (_x : IndexSpec) (_n : AddressBits) (_s : State) : Result :=
  .refused (.unallocated 0o06 false)

/-- `06.1`: (N)' = -b + (N) (R110). -/
def execF06_1 (x : IndexSpec) (n : AddressBits) (s : State) : Result :=
  namingIndex x (sumToOperand .main (plainN n) s fun v => -sv (s.b.get x) + v)

/-- `07.0`: not allocated (R71). -/
def execF07_0 (_x : IndexSpec) (_n : AddressBits) (_s : State) : Result :=
  .refused (.unallocated 0o07 false)

/-- `07.1`: (N)' = b (R111). -/
def execF07_1 (x : IndexSpec) (n : AddressBits) (s : State) : Result :=
  namingIndex x (storeOperand .main (plainN n) (s.b.get x) s)

end Sys2Proof.Machine
end

