-- ==== Sys2Proof/Machine/Group1.lean ====
section
/-! DEFINITION. Group 1: short arithmetical instructions, direct and main store addresses (R120 to R131). -/

namespace Sys2Proof.Machine

/-- `10.0`: a' = a + N (R120). -/
def execF10_0 (x : IndexSpec) (n : AddressBits) (s : State) : Result :=
  sumToA (sv s.a + sv (modifiedN s x n)) s

/-- `10.1`: a' = a + (N) (R121). -/
def execF10_1 (x : IndexSpec) (n : AddressBits) (s : State) : Result :=
  withOperand .main (modifiedN s x n) s fun v => sumToA (sv s.a + sv v) s

/-- `11.0`: a' = a - N (R122). -/
def execF11_0 (x : IndexSpec) (n : AddressBits) (s : State) : Result :=
  sumToA (sv s.a - sv (modifiedN s x n)) s

/-- `11.1`: a' = a - (N) (R123). -/
def execF11_1 (x : IndexSpec) (n : AddressBits) (s : State) : Result :=
  withOperand .main (modifiedN s x n) s fun v => sumToA (sv s.a - sv v) s

/-- `12.0`: a' = -a + N (R124). -/
def execF12_0 (x : IndexSpec) (n : AddressBits) (s : State) : Result :=
  sumToA (-sv s.a + sv (modifiedN s x n)) s

/-- `12.1`: a' = -a + (N) (R125). -/
def execF12_1 (x : IndexSpec) (n : AddressBits) (s : State) : Result :=
  withOperand .main (modifiedN s x n) s fun v => sumToA (-sv s.a + sv v) s

/-- `13.0`: a' = N (R126). -/
def execF13_0 (x : IndexSpec) (n : AddressBits) (s : State) : Result :=
  .next (s.setA (modifiedN s x n))

/-- `13.1`: a' = (N) (R127). -/
def execF13_1 (x : IndexSpec) (n : AddressBits) (s : State) : Result :=
  withOperand .main (modifiedN s x n) s fun v => .next (s.setA v)

/-- `14.0`: not allocated (R71). -/
def execF14_0 (_x : IndexSpec) (_n : AddressBits) (_s : State) : Result :=
  .refused (.unallocated 0o14 false)

/-- `14.1`: (N)' = a + (N) (R128). -/
def execF14_1 (x : IndexSpec) (n : AddressBits) (s : State) : Result :=
  sumToOperand .main (modifiedN s x n) s fun v => sv s.a + v

/-- `15.0`: not allocated (R71). -/
def execF15_0 (_x : IndexSpec) (_n : AddressBits) (_s : State) : Result :=
  .refused (.unallocated 0o15 false)

/-- `15.1`: (N)' = a - (N) (R129). -/
def execF15_1 (x : IndexSpec) (n : AddressBits) (s : State) : Result :=
  sumToOperand .main (modifiedN s x n) s fun v => sv s.a - v

/-- `16.0`: not allocated (R71). -/
def execF16_0 (_x : IndexSpec) (_n : AddressBits) (_s : State) : Result :=
  .refused (.unallocated 0o16 false)

/-- `16.1`: (N)' = -a + (N) (R130). -/
def execF16_1 (x : IndexSpec) (n : AddressBits) (s : State) : Result :=
  sumToOperand .main (modifiedN s x n) s fun v => -sv s.a + v

/-- `17.0`: not allocated (R71). -/
def execF17_0 (_x : IndexSpec) (_n : AddressBits) (_s : State) : Result :=
  .refused (.unallocated 0o17 false)

/-- `17.1`: (N)' = a (R131). -/
def execF17_1 (x : IndexSpec) (n : AddressBits) (s : State) : Result :=
  storeOperand .main (modifiedN s x n) s.a s

end Sys2Proof.Machine
end

