-- ==== Sys2Proof/Machine/Group2.lean ====
section
/-! DEFINITION. Group 2: modifier setting instructions, fast store and indirect access (R140 to R155).
B-naming: B is B[X], the address is not modified, X = 0 is refused (30_encoding.md R64, R66). -/

namespace Sys2Proof.Machine

/-- `20.0`: b' = b + n (R140). -/
def execF20_0 (x : IndexSpec) (n : AddressBits) (s : State) : Result :=
  namingIndex x (withOperand .fast (plainN n) s fun v => sumToB x (sv (s.b.get x) + sv v) s)

/-- `20.1`: b' = b + (n) (R141). -/
def execF20_1 (x : IndexSpec) (n : AddressBits) (s : State) : Result :=
  namingIndex x (withOperand .indirect (plainN n) s fun v => sumToB x (sv (s.b.get x) + sv v) s)

/-- `21.0`: b' = b - n (R142). -/
def execF21_0 (x : IndexSpec) (n : AddressBits) (s : State) : Result :=
  namingIndex x (withOperand .fast (plainN n) s fun v => sumToB x (sv (s.b.get x) - sv v) s)

/-- `21.1`: b' = b - (n) (R143). -/
def execF21_1 (x : IndexSpec) (n : AddressBits) (s : State) : Result :=
  namingIndex x (withOperand .indirect (plainN n) s fun v => sumToB x (sv (s.b.get x) - sv v) s)

/-- `22.0`: b' = -b + n (R144). -/
def execF22_0 (x : IndexSpec) (n : AddressBits) (s : State) : Result :=
  namingIndex x (withOperand .fast (plainN n) s fun v => sumToB x (-sv (s.b.get x) + sv v) s)

/-- `22.1`: b' = -b + (n) (R145). -/
def execF22_1 (x : IndexSpec) (n : AddressBits) (s : State) : Result :=
  namingIndex x (withOperand .indirect (plainN n) s fun v => sumToB x (-sv (s.b.get x) + sv v) s)

/-- `23.0`: b' = n (R146). -/
def execF23_0 (x : IndexSpec) (n : AddressBits) (s : State) : Result :=
  namingIndex x (withOperand .fast (plainN n) s fun v => .next (s.setB x v))

/-- `23.1`: b' = (n) (R147). -/
def execF23_1 (x : IndexSpec) (n : AddressBits) (s : State) : Result :=
  namingIndex x (withOperand .indirect (plainN n) s fun v => .next (s.setB x v))

/-- `24.0`: n' = b + n (R148). -/
def execF24_0 (x : IndexSpec) (n : AddressBits) (s : State) : Result :=
  namingIndex x (sumToOperand .fast (plainN n) s fun v => sv (s.b.get x) + v)

/-- `24.1`: (n)' = b + (n) (R149). -/
def execF24_1 (x : IndexSpec) (n : AddressBits) (s : State) : Result :=
  namingIndex x (sumToOperand .indirect (plainN n) s fun v => sv (s.b.get x) + v)

/-- `25.0`: n' = b - n (R150). -/
def execF25_0 (x : IndexSpec) (n : AddressBits) (s : State) : Result :=
  namingIndex x (sumToOperand .fast (plainN n) s fun v => sv (s.b.get x) - v)

/-- `25.1`: (n)' = b - (n) (R151). -/
def execF25_1 (x : IndexSpec) (n : AddressBits) (s : State) : Result :=
  namingIndex x (sumToOperand .indirect (plainN n) s fun v => sv (s.b.get x) - v)

/-- `26.0`: n' = -b + n (R152). -/
def execF26_0 (x : IndexSpec) (n : AddressBits) (s : State) : Result :=
  namingIndex x (sumToOperand .fast (plainN n) s fun v => -sv (s.b.get x) + v)

/-- `26.1`: (n)' = -b + (n) (R153). -/
def execF26_1 (x : IndexSpec) (n : AddressBits) (s : State) : Result :=
  namingIndex x (sumToOperand .indirect (plainN n) s fun v => -sv (s.b.get x) + v)

/-- `27.0`: n' = b (R154). -/
def execF27_0 (x : IndexSpec) (n : AddressBits) (s : State) : Result :=
  namingIndex x (storeOperand .fast (plainN n) (s.b.get x) s)

/-- `27.1`: (n)' = b (R155). -/
def execF27_1 (x : IndexSpec) (n : AddressBits) (s : State) : Result :=
  namingIndex x (storeOperand .indirect (plainN n) (s.b.get x) s)

end Sys2Proof.Machine
end

