-- ==== Sys2Proof/Machine/Group3.lean ====
section
/-! DEFINITION. Group 3: short arithmetical instructions, fast store and indirect access (R160 to R175). -/

namespace Sys2Proof.Machine

/-- `30.0`: a' = a + n (R160). -/
def execF30_0 (x : IndexSpec) (n : AddressBits) (s : State) : Result :=
  withOperand .fast (modifiedN s x n) s fun v => sumToA (sv s.a + sv v) s

/-- `30.1`: a' = a + (n) (R161). -/
def execF30_1 (x : IndexSpec) (n : AddressBits) (s : State) : Result :=
  withOperand .indirect (modifiedN s x n) s fun v => sumToA (sv s.a + sv v) s

/-- `31.0`: a' = a - n (R162). -/
def execF31_0 (x : IndexSpec) (n : AddressBits) (s : State) : Result :=
  withOperand .fast (modifiedN s x n) s fun v => sumToA (sv s.a - sv v) s

/-- `31.1`: a' = a - (n) (R163). -/
def execF31_1 (x : IndexSpec) (n : AddressBits) (s : State) : Result :=
  withOperand .indirect (modifiedN s x n) s fun v => sumToA (sv s.a - sv v) s

/-- `32.0`: a' = -a + n (R164). -/
def execF32_0 (x : IndexSpec) (n : AddressBits) (s : State) : Result :=
  withOperand .fast (modifiedN s x n) s fun v => sumToA (-sv s.a + sv v) s

/-- `32.1`: a' = -a + (n) (R165). -/
def execF32_1 (x : IndexSpec) (n : AddressBits) (s : State) : Result :=
  withOperand .indirect (modifiedN s x n) s fun v => sumToA (-sv s.a + sv v) s

/-- `33.0`: a' = n (R166). -/
def execF33_0 (x : IndexSpec) (n : AddressBits) (s : State) : Result :=
  withOperand .fast (modifiedN s x n) s fun v => .next (s.setA v)

/-- `33.1`: a' = (n) (R167). -/
def execF33_1 (x : IndexSpec) (n : AddressBits) (s : State) : Result :=
  withOperand .indirect (modifiedN s x n) s fun v => .next (s.setA v)

/-- `34.0`: n' = a + n (R168). -/
def execF34_0 (x : IndexSpec) (n : AddressBits) (s : State) : Result :=
  sumToOperand .fast (modifiedN s x n) s fun v => sv s.a + v

/-- `34.1`: (n)' = a + (n) (R169). -/
def execF34_1 (x : IndexSpec) (n : AddressBits) (s : State) : Result :=
  sumToOperand .indirect (modifiedN s x n) s fun v => sv s.a + v

/-- `35.0`: n' = a - n (R170). -/
def execF35_0 (x : IndexSpec) (n : AddressBits) (s : State) : Result :=
  sumToOperand .fast (modifiedN s x n) s fun v => sv s.a - v

/-- `35.1`: (n)' = a - (n) (R171). -/
def execF35_1 (x : IndexSpec) (n : AddressBits) (s : State) : Result :=
  sumToOperand .indirect (modifiedN s x n) s fun v => sv s.a - v

/-- `36.0`: n' = -a + n (R172). -/
def execF36_0 (x : IndexSpec) (n : AddressBits) (s : State) : Result :=
  sumToOperand .fast (modifiedN s x n) s fun v => -sv s.a + v

/-- `36.1`: (n)' = -a + (n) (R173). -/
def execF36_1 (x : IndexSpec) (n : AddressBits) (s : State) : Result :=
  sumToOperand .indirect (modifiedN s x n) s fun v => -sv s.a + v

/-- `37.0`: n' = a (R174). -/
def execF37_0 (x : IndexSpec) (n : AddressBits) (s : State) : Result :=
  storeOperand .fast (modifiedN s x n) s.a s

/-- `37.1`: (n)' = a (R175). -/
def execF37_1 (x : IndexSpec) (n : AddressBits) (s : State) : Result :=
  storeOperand .indirect (modifiedN s x n) s.a s

end Sys2Proof.Machine
end

