-- ==== Sys2Proof/Machine/Group4.lean ====
section
/-! DEFINITION. Group 4: transfer control instructions (R180 to R189).  40 to 43 are B-naming.  A transfer that is
not taken leaves S as the fetch left it (R188); none but 47 writes the overflow marker (R189). -/

namespace Sys2Proof.Machine

/-- `40`: count up: if b is not 0, b' = b + 1 and jump (R180). -/
def execF40 (m : Bool) (x : IndexSpec) (n : AddressBits) (s : State) : Result :=
  namingIndex x (if s.b.get x ≠ 0 then .next ((s.setB x (s.b.get x + 1)).jump m (plainN n)) else .next s)

/-- `41`: count down: if b is not 0, b' = b - 1 and jump (R181). -/
def execF41 (m : Bool) (x : IndexSpec) (n : AddressBits) (s : State) : Result :=
  namingIndex x (if s.b.get x ≠ 0 then .next ((s.setB x (s.b.get x - 1)).jump m (plainN n)) else .next s)

/-- `42`: jump if B zero (R182). -/
def execF42 (m : Bool) (x : IndexSpec) (n : AddressBits) (s : State) : Result :=
  namingIndex x (if s.b.get x = 0 then .next (s.jump m (plainN n)) else .next s)

/-- `43`: sub-routine jump: b' = s and jump (R183). -/
def execF43 (m : Bool) (x : IndexSpec) (n : AddressBits) (s : State) : Result :=
  namingIndex x (.next ((s.setB x s.link).jump m (plainN n)))

/-- `44`: jump if a >= 0 (R184). -/
def execF44 (m : Bool) (x : IndexSpec) (n : AddressBits) (s : State) : Result :=
  if 0 ≤ sv s.a then .next (s.jump m (modifiedN s x n)) else .next s

/-- `45`: jump if a < 0 (R185). -/
def execF45 (m : Bool) (x : IndexSpec) (n : AddressBits) (s : State) : Result :=
  if sv s.a < 0 then .next (s.jump m (modifiedN s x n)) else .next s

/-- `46`: jump if a = 0 (R186). -/
def execF46 (m : Bool) (x : IndexSpec) (n : AddressBits) (s : State) : Result :=
  if s.a = 0 then .next (s.jump m (modifiedN s x n)) else .next s

/-- `47`: test overflow: clear the marker, jump if it was set (R187). -/
def execF47 (m : Bool) (x : IndexSpec) (n : AddressBits) (s : State) : Result :=
  if s.ovr then .next ((s.putOvr false).jump m (modifiedN s x n)) else .next (s.putOvr false)

end Sys2Proof.Machine
end

