-- ==== Sys2Proof/Machine/Group5.lean ====
section
/-! DEFINITION. Group 5: miscellaneous instructions (R200 to R213).  None is B-naming.  With M = 1 the operand of 52
to 57 is `(N)`, not the indirect `(n)` (30_encoding.md R69). -/

namespace Sys2Proof.Machine

/-- `50`: jump (R200). -/
def execF50 (m : Bool) (x : IndexSpec) (n : AddressBits) (s : State) : Result :=
  .next (s.jump m (modifiedN s x n))

/-- `51`: jump backwards: s' = s - N (R201). -/
def execF51 (m : Bool) (x : IndexSpec) (n : AddressBits) (s : State) : Result :=
  .next (s.jump m (wrap20 ((s.sa.toNat : Int) - ((modifiedN s x n).toNat : Int))))

/-- `52.0`: collate to A: a' = a & n (R202). -/
def execF52_0 (x : IndexSpec) (n : AddressBits) (s : State) : Result :=
  withOperand .fast (modifiedN s x n) s fun v => .next (s.setA (s.a &&& v))

/-- `52.1`: collate to A: a' = a & (N) (R203). -/
def execF52_1 (x : IndexSpec) (n : AddressBits) (s : State) : Result :=
  withOperand .main (modifiedN s x n) s fun v => .next (s.setA (s.a &&& v))

/-- `53.0`: send to R: r' = n (R204). -/
def execF53_0 (x : IndexSpec) (n : AddressBits) (s : State) : Result :=
  withOperand .fast (modifiedN s x n) s fun v => .next (s.setR v)

/-- `53.1`: send to R: r' = (N) (R205). -/
def execF53_1 (x : IndexSpec) (n : AddressBits) (s : State) : Result :=
  withOperand .main (modifiedN s x n) s fun v => .next (s.setR v)

/-- `54.0`: count up in store: n' = n + 1 (R206). -/
def execF54_0 (x : IndexSpec) (n : AddressBits) (s : State) : Result :=
  updateOperand .fast (modifiedN s x n) s fun v => v + 1

/-- `54.1`: count up in store: (N)' = (N) + 1 (R207). -/
def execF54_1 (x : IndexSpec) (n : AddressBits) (s : State) : Result :=
  updateOperand .main (modifiedN s x n) s fun v => v + 1

/-- `55.0`: count down in store: n' = n - 1 (R208). -/
def execF55_0 (x : IndexSpec) (n : AddressBits) (s : State) : Result :=
  updateOperand .fast (modifiedN s x n) s fun v => v - 1

/-- `55.1`: count down in store: (N)' = (N) - 1 (R209). -/
def execF55_1 (x : IndexSpec) (n : AddressBits) (s : State) : Result :=
  updateOperand .main (modifiedN s x n) s fun v => v - 1

/-- `56.0`: collate to store: n' = a & n (R210). -/
def execF56_0 (x : IndexSpec) (n : AddressBits) (s : State) : Result :=
  updateOperand .fast (modifiedN s x n) s fun v => s.a &&& v

/-- `56.1`: collate to store: (N)' = a & (N) (R211). -/
def execF56_1 (x : IndexSpec) (n : AddressBits) (s : State) : Result :=
  updateOperand .main (modifiedN s x n) s fun v => s.a &&& v

/-- `57.0`: R to store: n' = r (R212). -/
def execF57_0 (x : IndexSpec) (n : AddressBits) (s : State) : Result :=
  storeOperand .fast (modifiedN s x n) s.r s

/-- `57.1`: R to store: (N)' = r (R213). -/
def execF57_1 (x : IndexSpec) (n : AddressBits) (s : State) : Result :=
  storeOperand .main (modifiedN s x n) s.r s

end Sys2Proof.Machine
end

