-- ==== Sys2Proof/Machine/Arithmetic.lean ====
section
/-! DEFINITION. The long arithmetic and the shifts of Group 6 (46_group6_long_arith_shifts.md), on
integers: a word stands for `sv(w) x 2^-19`, the double-length register for `dv(A, R) x 2^-38`. -/

namespace Sys2Proof.Machine

/-! ### The double-length register (10_state.md R23) -/

/-- `dv(A, R) = sv(A) x 2^19 + R[18:0]`; bit 19 of R is no part of the number. -/
def doubleValue (a r : Word) : Int := sv a * 2 ^ 19 + ((r.setWidth 19).toNat : Int)

/-- `setAR(z)`: the low 39 bits of `z` in A and R[18:0], R[19] = 0. -/
def State.setAR (s : State) (z : Int) : State :=
  (s.setA ((BitVec.ofInt 39 z).extractLsb' 19 20)).setR (((BitVec.ofInt 39 z).setWidth 19).setWidth 20)

/-! ### Shifts (R220 to R222, R233) -/

/-- `floor(z x 2^count)` for either sign of the count. -/
def shiftInt (z : Int) (count : Int) : Int :=
  if 0 ≤ count then z * 2 ^ count.toNat else Int.fdiv z (2 ^ (-count).toNat)

/-- The logical shift of a word: zeros enter at either end, bits shifted out are lost (R220). -/
def shiftLogical (w : Word) (count : Int) : Word :=
  if 0 ≤ count then BitVec.ofNat 20 (w.toNat * 2 ^ count.toNat)
  else BitVec.ofNat 20 (w.toNat / 2 ^ (-count).toNat)

/-- The shifted double-length value `z` into AR; the marker is set when `z` does not fit 39 bits (R222,
decision D18). -/
def shiftToAR (z : Int) (s : State) : Result := .next ((s.markWhen (!inRange39 z)).setAR z)

/-! ### Square root (R223) -/

/-- The root found bit by bit: `acc` raised by each power of two below `2^bits` that keeps its square
at most `z`. -/
def rootBits : Nat → Nat → Nat → Nat
  | 0, _, acc => acc
  | bits + 1, z, acc =>
    if (acc + 2 ^ bits) * (acc + 2 ^ bits) ≤ z then rootBits bits z (acc + 2 ^ bits)
    else rootBits bits z acc

/-- `isqrt(z)` for `z < 2^40` (00_scope.md R8). -/
def isqrt (z : Nat) : Nat := rootBits 20 z 0

/-- The square root of the radicand `v` into A; R cleared in every case (R223).  A is unspecified where the
radicand is negative or out of range. -/
def squareRoot (v : Int) (s : State) : Result :=
  if 0 ≤ v && v ≤ 2 ^ 19 - 1 then
    .next (((s.setOvr v).setR 0).setA (BitVec.ofNat 20 (isqrt (v.toNat * 2 ^ 19))))
  else .next ((((s.setOvr v).setR 0).setA (s.unspecified 0)).spendFree 1)

/-! ### Multiplication (R225, R227) -/

/-- The exact product `z` into AR; the marker is set when it is +1 (R225). -/
def productToAR (z : Int) (s : State) : Result := .next ((s.markWhen (z == 2 ^ 38)).setAR z)

/-- The exact product of A and the operand into AR (R225). -/
def multiplyDouble (v : Word) (s : State) : Result := productToAR (sv s.a * sv v) s

/-- The exact product `z` rounded to single length: the nearest multiple of 2^-19, a tie going up (R227,
decision D20). -/
def roundProduct (z : Int) : Int := Int.fdiv (z + 2 ^ 18) (2 ^ 19)

/-- The rounded product into A, which sets the marker; R cleared (R227, decision D21). -/
def multiplyRounded (v : Word) (s : State) : Result :=
  .next (((s.setOvr (roundProduct (sv s.a * sv v))).setA (wrap20 (roundProduct (sv s.a * sv v)))).setR 0)

/-! ### Division (R229, R231) -/

/-- A division with remainder out of scale: marker set, R and A unspecified (R229). -/
def divisionOutOfScale (s : State) : Result :=
  .next ((((s.putOvr true).setR (s.unspecified 0)).setA (s.unspecified 1)).spendFree 2)

/-- Division of `d` by `n` truncating toward zero: the quotient into R, the remainder into A (R229,
decision D22). -/
def divideTruncating (d n : Int) (s : State) : Result :=
  if n = 0 then divisionOutOfScale s
  else if inRange20 (Int.tdiv d n) then
    .next ((s.setR (wrap20 (Int.tdiv d n))).setA (wrap20 (d - Int.tdiv d n * n)))
  else divisionOutOfScale s

/-- Division of AR by the operand, with remainder (R229). -/
def divideWithRemainder (v : Word) (s : State) : Result :=
  divideTruncating (doubleValue s.a s.r) (sv v) s

/-- A rounded division out of scale: marker set, R cleared, A unspecified (R231). -/
def roundedOutOfScale (s : State) : Result :=
  .next ((((s.putOvr true).setR 0).setA (s.unspecified 0)).spendFree 1)

/-- The integer nearest to `d / n`, a tie going up: `floor(d / n + 1/2) = floor((2d + n) / (2n))` (R231,
decision D20). -/
def roundQuotient (d n : Int) : Int := Int.fdiv (2 * d + n) (2 * n)

/-- The rounded quotient of `d` by `n` into A; R cleared (R231). -/
def divideNearest (d n : Int) (s : State) : Result :=
  if n = 0 then roundedOutOfScale s
  else if inRange20 (roundQuotient d n) then .next ((s.setR 0).setA (wrap20 (roundQuotient d n)))
  else roundedOutOfScale s

/-- Division of AR by the operand, rounded (R231). -/
def divideRounded (v : Word) (s : State) : Result := divideNearest (doubleValue s.a s.r) (sv v) s

end Sys2Proof.Machine
end

