-- ==== Sys2Proof/Machine/Group6.lean ====
section
/-! DEFINITION. Group 6: long arithmetical instructions and shifts (R220 to R233).  None is B-naming; the mode bit has
no role in 60, 61, 62 (30_encoding.md R63). -/

namespace Sys2Proof.Machine

/-- `60`: logical shift of A (R220). -/
def execF60 (_m : Bool) (x : IndexSpec) (n : AddressBits) (s : State) : Result :=
  .next (s.setA (shiftLogical s.a (shiftCount (modifiedN s x n))))

/-- `61`: single-length arithmetical shift: a' = a x 2^N (R221). -/
def execF61 (_m : Bool) (x : IndexSpec) (n : AddressBits) (s : State) : Result :=
  sumToA (shiftInt (sv s.a) (shiftCount (modifiedN s x n))) s

/-- `62`: double-length arithmetical shift: [ar]' = [ar] x 2^N (R222). -/
def execF62 (_m : Bool) (x : IndexSpec) (n : AddressBits) (s : State) : Result :=
  shiftToAR (shiftInt (doubleValue s.a s.r) (shiftCount (modifiedN s x n))) s

/-- `63.0`: square root: a' = sqrt(a + n) (R223). -/
def execF63_0 (x : IndexSpec) (n : AddressBits) (s : State) : Result :=
  withOperand .fast (modifiedN s x n) s fun v => squareRoot (sv s.a + sv v) s

/-- `63.1`: square root: a' = sqrt(a + (N)) (R224). -/
def execF63_1 (x : IndexSpec) (n : AddressBits) (s : State) : Result :=
  withOperand .main (modifiedN s x n) s fun v => squareRoot (sv s.a + sv v) s

/-- `64.0`: double length multiplication: [ar]' = a x n (R225). -/
def execF64_0 (x : IndexSpec) (n : AddressBits) (s : State) : Result :=
  withOperand .fast (modifiedN s x n) s fun v => multiplyDouble v s

/-- `64.1`: double length multiplication: [ar]' = a x (N) (R226). -/
def execF64_1 (x : IndexSpec) (n : AddressBits) (s : State) : Result :=
  withOperand .main (modifiedN s x n) s fun v => multiplyDouble v s

/-- `65.0`: rounded multiplication: a' = a x n (R227). -/
def execF65_0 (x : IndexSpec) (n : AddressBits) (s : State) : Result :=
  withOperand .fast (modifiedN s x n) s fun v => multiplyRounded v s

/-- `65.1`: rounded multiplication: a' = a x (N) (R228). -/
def execF65_1 (x : IndexSpec) (n : AddressBits) (s : State) : Result :=
  withOperand .main (modifiedN s x n) s fun v => multiplyRounded v s

/-- `66.0`: division with remainder by n (R229). -/
def execF66_0 (x : IndexSpec) (n : AddressBits) (s : State) : Result :=
  withOperand .fast (modifiedN s x n) s fun v => divideWithRemainder v s

/-- `66.1`: division with remainder by (N) (R230). -/
def execF66_1 (x : IndexSpec) (n : AddressBits) (s : State) : Result :=
  withOperand .main (modifiedN s x n) s fun v => divideWithRemainder v s

/-- `67.0`: rounded division: a' = ar/n (R231). -/
def execF67_0 (x : IndexSpec) (n : AddressBits) (s : State) : Result :=
  withOperand .fast (modifiedN s x n) s fun v => divideRounded v s

/-- `67.1`: rounded division: a' = ar/(N) (R232). -/
def execF67_1 (x : IndexSpec) (n : AddressBits) (s : State) : Result :=
  withOperand .main (modifiedN s x n) s fun v => divideRounded v s

end Sys2Proof.Machine
end

