-- ==== Sys2Proof/Machine/Group7.lean ====
section
/-! DEFINITION. Group 7: peripheral instructions (R240 to R247).  None is B-naming; the device fields come from the
modified address (30_encoding.md R68).  The mode bit has no role but in 76 (R63). -/

namespace Sys2Proof.Machine

/-- `70`: input and add: a' = a + T (R240). -/
def execF70 (_m : Bool) (x : IndexSpec) (n : AddressBits) (s : State) : Result :=
  sumToA (sv s.a + sv s.nextInput) (s.drawFrom (deviceOf (modifiedN s x n)))

/-- `71`: not allocated (R71, R246). -/
def execF71 (m : Bool) (_x : IndexSpec) (_n : AddressBits) (_s : State) : Result :=
  .refused (.unallocated 0o71 m)

/-- `72`: not allocated (R71, R246). -/
def execF72 (m : Bool) (_x : IndexSpec) (_n : AddressBits) (_s : State) : Result :=
  .refused (.unallocated 0o72 m)

/-- `73`: input: a' = T (R241). -/
def execF73 (_m : Bool) (x : IndexSpec) (n : AddressBits) (s : State) : Result :=
  .next ((s.drawFrom (deviceOf (modifiedN s x n))).setA s.nextInput)

/-- `74`: command to a peripheral controller (R242). -/
def execF74 (_m : Bool) (x : IndexSpec) (n : AddressBits) (s : State) : Result :=
  .next (s.command (deviceOf (modifiedN s x n)))

/-- `75`: not allocated (R71, R246). -/
def execF75 (m : Bool) (_x : IndexSpec) (_n : AddressBits) (_s : State) : Result :=
  .refused (.unallocated 0o75 m)

/-- `76`: program break (R243). -/
def execF76 (m : Bool) (x : IndexSpec) (n : AddressBits) (s : State) : Result :=
  .next (s.programBreak (storeOfMode m) (addr (modifiedN s x n)))

/-- `77`: output of a (R244). -/
def execF77 (_m : Bool) (x : IndexSpec) (n : AddressBits) (s : State) : Result :=
  .next (s.emit (.devOut (deviceOf (modifiedN s x n)) s.a))

end Sys2Proof.Machine
end

