-- ==== Sys2Proof/Machine/Dispatch.lean ====
section
/-! DEFINITION. `exec`: one arm per constructor of `Instr`, each one direct call of its meaning. -/

namespace Sys2Proof.Machine

def exec (i : Instr) (s : State) : Host.Outcome State Fault Refusal :=
  match i with
  -- Group 0: modifier setting, direct and main store
  | .f00_0 x n => Sys2Proof.Machine.execF00_0 x n s
  | .f00_1 x n => Sys2Proof.Machine.execF00_1 x n s
  | .f01_0 x n => Sys2Proof.Machine.execF01_0 x n s
  | .f01_1 x n => Sys2Proof.Machine.execF01_1 x n s
  | .f02_0 x n => Sys2Proof.Machine.execF02_0 x n s
  | .f02_1 x n => Sys2Proof.Machine.execF02_1 x n s
  | .f03_0 x n => Sys2Proof.Machine.execF03_0 x n s
  | .f03_1 x n => Sys2Proof.Machine.execF03_1 x n s
  | .f04_0 x n => Sys2Proof.Machine.execF04_0 x n s
  | .f04_1 x n => Sys2Proof.Machine.execF04_1 x n s
  | .f05_0 x n => Sys2Proof.Machine.execF05_0 x n s
  | .f05_1 x n => Sys2Proof.Machine.execF05_1 x n s
  | .f06_0 x n => Sys2Proof.Machine.execF06_0 x n s
  | .f06_1 x n => Sys2Proof.Machine.execF06_1 x n s
  | .f07_0 x n => Sys2Proof.Machine.execF07_0 x n s
  | .f07_1 x n => Sys2Proof.Machine.execF07_1 x n s
  -- Group 1: short arithmetic, direct and main store
  | .f10_0 x n => Sys2Proof.Machine.execF10_0 x n s
  | .f10_1 x n => Sys2Proof.Machine.execF10_1 x n s
  | .f11_0 x n => Sys2Proof.Machine.execF11_0 x n s
  | .f11_1 x n => Sys2Proof.Machine.execF11_1 x n s
  | .f12_0 x n => Sys2Proof.Machine.execF12_0 x n s
  | .f12_1 x n => Sys2Proof.Machine.execF12_1 x n s
  | .f13_0 x n => Sys2Proof.Machine.execF13_0 x n s
  | .f13_1 x n => Sys2Proof.Machine.execF13_1 x n s
  | .f14_0 x n => Sys2Proof.Machine.execF14_0 x n s
  | .f14_1 x n => Sys2Proof.Machine.execF14_1 x n s
  | .f15_0 x n => Sys2Proof.Machine.execF15_0 x n s
  | .f15_1 x n => Sys2Proof.Machine.execF15_1 x n s
  | .f16_0 x n => Sys2Proof.Machine.execF16_0 x n s
  | .f16_1 x n => Sys2Proof.Machine.execF16_1 x n s
  | .f17_0 x n => Sys2Proof.Machine.execF17_0 x n s
  | .f17_1 x n => Sys2Proof.Machine.execF17_1 x n s
  -- Group 2: modifier setting, fast store and indirect
  | .f20_0 x n => Sys2Proof.Machine.execF20_0 x n s
  | .f20_1 x n => Sys2Proof.Machine.execF20_1 x n s
  | .f21_0 x n => Sys2Proof.Machine.execF21_0 x n s
  | .f21_1 x n => Sys2Proof.Machine.execF21_1 x n s
  | .f22_0 x n => Sys2Proof.Machine.execF22_0 x n s
  | .f22_1 x n => Sys2Proof.Machine.execF22_1 x n s
  | .f23_0 x n => Sys2Proof.Machine.execF23_0 x n s
  | .f23_1 x n => Sys2Proof.Machine.execF23_1 x n s
  | .f24_0 x n => Sys2Proof.Machine.execF24_0 x n s
  | .f24_1 x n => Sys2Proof.Machine.execF24_1 x n s
  | .f25_0 x n => Sys2Proof.Machine.execF25_0 x n s
  | .f25_1 x n => Sys2Proof.Machine.execF25_1 x n s
  | .f26_0 x n => Sys2Proof.Machine.execF26_0 x n s
  | .f26_1 x n => Sys2Proof.Machine.execF26_1 x n s
  | .f27_0 x n => Sys2Proof.Machine.execF27_0 x n s
  | .f27_1 x n => Sys2Proof.Machine.execF27_1 x n s
  -- Group 3: short arithmetic, fast store and indirect
  | .f30_0 x n => Sys2Proof.Machine.execF30_0 x n s
  | .f30_1 x n => Sys2Proof.Machine.execF30_1 x n s
  | .f31_0 x n => Sys2Proof.Machine.execF31_0 x n s
  | .f31_1 x n => Sys2Proof.Machine.execF31_1 x n s
  | .f32_0 x n => Sys2Proof.Machine.execF32_0 x n s
  | .f32_1 x n => Sys2Proof.Machine.execF32_1 x n s
  | .f33_0 x n => Sys2Proof.Machine.execF33_0 x n s
  | .f33_1 x n => Sys2Proof.Machine.execF33_1 x n s
  | .f34_0 x n => Sys2Proof.Machine.execF34_0 x n s
  | .f34_1 x n => Sys2Proof.Machine.execF34_1 x n s
  | .f35_0 x n => Sys2Proof.Machine.execF35_0 x n s
  | .f35_1 x n => Sys2Proof.Machine.execF35_1 x n s
  | .f36_0 x n => Sys2Proof.Machine.execF36_0 x n s
  | .f36_1 x n => Sys2Proof.Machine.execF36_1 x n s
  | .f37_0 x n => Sys2Proof.Machine.execF37_0 x n s
  | .f37_1 x n => Sys2Proof.Machine.execF37_1 x n s
  -- Group 4: transfer of control
  | .f40 m x n => Sys2Proof.Machine.execF40 m x n s
  | .f41 m x n => Sys2Proof.Machine.execF41 m x n s
  | .f42 m x n => Sys2Proof.Machine.execF42 m x n s
  | .f43 m x n => Sys2Proof.Machine.execF43 m x n s
  | .f44 m x n => Sys2Proof.Machine.execF44 m x n s
  | .f45 m x n => Sys2Proof.Machine.execF45 m x n s
  | .f46 m x n => Sys2Proof.Machine.execF46 m x n s
  | .f47 m x n => Sys2Proof.Machine.execF47 m x n s
  -- Group 5: miscellaneous
  | .f50 m x n => Sys2Proof.Machine.execF50 m x n s
  | .f51 m x n => Sys2Proof.Machine.execF51 m x n s
  | .f52_0 x n => Sys2Proof.Machine.execF52_0 x n s
  | .f52_1 x n => Sys2Proof.Machine.execF52_1 x n s
  | .f53_0 x n => Sys2Proof.Machine.execF53_0 x n s
  | .f53_1 x n => Sys2Proof.Machine.execF53_1 x n s
  | .f54_0 x n => Sys2Proof.Machine.execF54_0 x n s
  | .f54_1 x n => Sys2Proof.Machine.execF54_1 x n s
  | .f55_0 x n => Sys2Proof.Machine.execF55_0 x n s
  | .f55_1 x n => Sys2Proof.Machine.execF55_1 x n s
  | .f56_0 x n => Sys2Proof.Machine.execF56_0 x n s
  | .f56_1 x n => Sys2Proof.Machine.execF56_1 x n s
  | .f57_0 x n => Sys2Proof.Machine.execF57_0 x n s
  | .f57_1 x n => Sys2Proof.Machine.execF57_1 x n s
  -- Group 6: long arithmetic and shifts
  | .f60 m x n => Sys2Proof.Machine.execF60 m x n s
  | .f61 m x n => Sys2Proof.Machine.execF61 m x n s
  | .f62 m x n => Sys2Proof.Machine.execF62 m x n s
  | .f63_0 x n => Sys2Proof.Machine.execF63_0 x n s
  | .f63_1 x n => Sys2Proof.Machine.execF63_1 x n s
  | .f64_0 x n => Sys2Proof.Machine.execF64_0 x n s
  | .f64_1 x n => Sys2Proof.Machine.execF64_1 x n s
  | .f65_0 x n => Sys2Proof.Machine.execF65_0 x n s
  | .f65_1 x n => Sys2Proof.Machine.execF65_1 x n s
  | .f66_0 x n => Sys2Proof.Machine.execF66_0 x n s
  | .f66_1 x n => Sys2Proof.Machine.execF66_1 x n s
  | .f67_0 x n => Sys2Proof.Machine.execF67_0 x n s
  | .f67_1 x n => Sys2Proof.Machine.execF67_1 x n s
  -- Group 7: peripheral
  | .f70 m x n => Sys2Proof.Machine.execF70 m x n s
  | .f71 m x n => Sys2Proof.Machine.execF71 m x n s
  | .f72 m x n => Sys2Proof.Machine.execF72 m x n s
  | .f73 m x n => Sys2Proof.Machine.execF73 m x n s
  | .f74 m x n => Sys2Proof.Machine.execF74 m x n s
  | .f75 m x n => Sys2Proof.Machine.execF75 m x n s
  | .f76 m x n => Sys2Proof.Machine.execF76 m x n s
  | .f77 m x n => Sys2Proof.Machine.execF77 m x n s

end Sys2Proof.Machine
end

