-- ==== Sys2Proof/Machine/Step.lean ====
section
/-! DEFINITION. One step of the machine (10_state.md R27): fetch, advance S, decode, execute; and the
placing of an instruction where the next step fetches. -/

namespace Sys2Proof.Machine

/-- One step (R27), of a run that is neither refused nor ended. -/
def step (s : State) : Host.Outcome State Fault Refusal :=
  whenRunning s (fetch s fun w s' => exec (decode w) s')

/-- `s` with the instruction whose bits are `w` at the location S names, in a run that is neither refused
nor ended (log 5). -/
def State.withFetchWord (s : State) (nbits w : Nat) : State :=
  { s.poke s.here (BitVec.ofNat 20 (w % 2 ^ nbits)) with refusedMark := none, ended := false }

end Sys2Proof.Machine
end

