-- ==== Sys2Proof/Safety.lean ====
section
/-! DEFINITION. What counts as a safe run, the machine's invariant, and the terms the statements use. -/

namespace Sys2Proof.Machine

/-! ### Runs (60_exceptions.md R260) -/

/-- One recorded step: a refused step leaves every register, both stores and the event history as they
were and marks the run with the reason; a run that a program break ended stays as it is. -/
def recordStep (s : State) : State :=
  match step s with
  | .next t => t
  | .fault .programmeEnded => s
  | .fault (.addressOutOfRange l) => { s with refusedMark := some (.fault (.addressOutOfRange l)) }
  | .refused r => { s with refusedMark := some (.refusal r) }

/-- `k` recorded steps. -/
def runSteps : Nat → State → State
  | 0, s => s
  | k + 1, s => runSteps k (recordStep s)

/-- The first `k` steps from `s` are never refused: the runs a claim can be proved of (R260). -/
def State.safeFor (s : State) (k : Nat) : Prop := (runSteps k s).refusedMark = none

/-! ### The invariant -/

/-- What every step keeps: both stores in canonical form and inside their sizes, the sizes in the range
00_scope.md R4 gives them, and a run that has ended has the re-entry point S as its last event
(47_group7_peripheral.md R243). -/
structure State.Inv (s : State) : Prop where
  fs_wf : Memory.wf s.fs
  ms_wf : Memory.wf s.ms
  fs_inside : ∀ p ∈ s.fs, p.1 < s.fastSize
  ms_inside : ∀ p ∈ s.ms, p.1 < s.mainSize
  fastSize_range : 1 ≤ s.fastSize ∧ s.fastSize ≤ 2 ^ 19
  mainSize_range : 1 ≤ s.mainSize ∧ s.mainSize ≤ 2 ^ 19
  ended_reentry : s.ended = true → ∃ before, s.events = before ++ [.programBreak s.sf s.sa]

/-- Both stores list rising locations in canonical form. -/
def State.storesWf (s : State) : Prop := Memory.wf s.fs ∧ Memory.wf s.ms

/-! ### What an instruction may write, as the spec lists it -/

/-- "Written by 10 to 13, 30 to 33, 52, 60 to 67, 70, 73" (10_state.md R20). -/
def writesA : Instr → Bool
  | .f10_0 .. | .f10_1 .. | .f11_0 .. | .f11_1 .. | .f12_0 .. | .f12_1 .. | .f13_0 .. | .f13_1 ..
  | .f30_0 .. | .f30_1 .. | .f31_0 .. | .f31_1 .. | .f32_0 .. | .f32_1 .. | .f33_0 .. | .f33_1 ..
  | .f52_0 .. | .f52_1 .. | .f60 .. | .f61 .. | .f62 .. | .f63_0 .. | .f63_1 .. | .f64_0 .. | .f64_1 ..
  | .f65_0 .. | .f65_1 .. | .f66_0 .. | .f66_1 .. | .f67_0 .. | .f67_1 .. | .f70 .. | .f73 .. => true
  | .f00_0 .. | .f00_1 .. | .f01_0 .. | .f01_1 .. | .f02_0 .. | .f02_1 .. | .f03_0 .. | .f03_1 ..
  | .f04_0 .. | .f04_1 .. | .f05_0 .. | .f05_1 .. | .f06_0 .. | .f06_1 .. | .f07_0 .. | .f07_1 ..
  | .f14_0 .. | .f14_1 .. | .f15_0 .. | .f15_1 .. | .f16_0 .. | .f16_1 .. | .f17_0 .. | .f17_1 ..
  | .f20_0 .. | .f20_1 .. | .f21_0 .. | .f21_1 .. | .f22_0 .. | .f22_1 .. | .f23_0 .. | .f23_1 ..
  | .f24_0 .. | .f24_1 .. | .f25_0 .. | .f25_1 .. | .f26_0 .. | .f26_1 .. | .f27_0 .. | .f27_1 ..
  | .f34_0 .. | .f34_1 .. | .f35_0 .. | .f35_1 .. | .f36_0 .. | .f36_1 .. | .f37_0 .. | .f37_1 ..
  | .f40 .. | .f41 .. | .f42 .. | .f43 .. | .f44 .. | .f45 .. | .f46 .. | .f47 .. | .f50 .. | .f51 ..
  | .f53_0 .. | .f53_1 .. | .f54_0 .. | .f54_1 .. | .f55_0 .. | .f55_1 .. | .f56_0 .. | .f56_1 ..
  | .f57_0 .. | .f57_1 .. | .f71 .. | .f72 .. | .f74 .. | .f75 .. | .f76 .. | .f77 .. => false

/-- "Written by 53, 62, 63 (cleared), 64, 65 (cleared), 66, 67 (cleared)" (10_state.md R21). -/
def writesR : Instr → Bool
  | .f53_0 .. | .f53_1 .. | .f62 .. | .f63_0 .. | .f63_1 .. | .f64_0 .. | .f64_1 .. | .f65_0 ..
  | .f65_1 .. | .f66_0 .. | .f66_1 .. | .f67_0 .. | .f67_1 .. => true
  | .f00_0 .. | .f00_1 .. | .f01_0 .. | .f01_1 .. | .f02_0 .. | .f02_1 .. | .f03_0 .. | .f03_1 ..
  | .f04_0 .. | .f04_1 .. | .f05_0 .. | .f05_1 .. | .f06_0 .. | .f06_1 .. | .f07_0 .. | .f07_1 ..
  | .f10_0 .. | .f10_1 .. | .f11_0 .. | .f11_1 .. | .f12_0 .. | .f12_1 .. | .f13_0 .. | .f13_1 ..
  | .f14_0 .. | .f14_1 .. | .f15_0 .. | .f15_1 .. | .f16_0 .. | .f16_1 .. | .f17_0 .. | .f17_1 ..
  | .f20_0 .. | .f20_1 .. | .f21_0 .. | .f21_1 .. | .f22_0 .. | .f22_1 .. | .f23_0 .. | .f23_1 ..
  | .f24_0 .. | .f24_1 .. | .f25_0 .. | .f25_1 .. | .f26_0 .. | .f26_1 .. | .f27_0 .. | .f27_1 ..
  | .f30_0 .. | .f30_1 .. | .f31_0 .. | .f31_1 .. | .f32_0 .. | .f32_1 .. | .f33_0 .. | .f33_1 ..
  | .f34_0 .. | .f34_1 .. | .f35_0 .. | .f35_1 .. | .f36_0 .. | .f36_1 .. | .f37_0 .. | .f37_1 ..
  | .f40 .. | .f41 .. | .f42 .. | .f43 .. | .f44 .. | .f45 .. | .f46 .. | .f47 .. | .f50 .. | .f51 ..
  | .f52_0 .. | .f52_1 .. | .f54_0 .. | .f54_1 .. | .f55_0 .. | .f55_1 .. | .f56_0 .. | .f56_1 ..
  | .f57_0 .. | .f57_1 .. | .f60 .. | .f61 .. | .f70 .. | .f71 .. | .f72 .. | .f73 .. | .f74 ..
  | .f75 .. | .f76 .. | .f77 .. => false

/-- "Written by 00 to 03, 20 to 23, 40, 41, 43 only" (10_state.md R22). -/
def writesB : Instr → Bool
  | .f00_0 .. | .f00_1 .. | .f01_0 .. | .f01_1 .. | .f02_0 .. | .f02_1 .. | .f03_0 .. | .f03_1 ..
  | .f20_0 .. | .f20_1 .. | .f21_0 .. | .f21_1 .. | .f22_0 .. | .f22_1 .. | .f23_0 .. | .f23_1 ..
  | .f40 .. | .f41 .. | .f43 .. => true
  | .f04_0 .. | .f04_1 .. | .f05_0 .. | .f05_1 .. | .f06_0 .. | .f06_1 .. | .f07_0 .. | .f07_1 ..
  | .f10_0 .. | .f10_1 .. | .f11_0 .. | .f11_1 .. | .f12_0 .. | .f12_1 .. | .f13_0 .. | .f13_1 ..
  | .f14_0 .. | .f14_1 .. | .f15_0 .. | .f15_1 .. | .f16_0 .. | .f16_1 .. | .f17_0 .. | .f17_1 ..
  | .f24_0 .. | .f24_1 .. | .f25_0 .. | .f25_1 .. | .f26_0 .. | .f26_1 .. | .f27_0 .. | .f27_1 ..
  | .f30_0 .. | .f30_1 .. | .f31_0 .. | .f31_1 .. | .f32_0 .. | .f32_1 .. | .f33_0 .. | .f33_1 ..
  | .f34_0 .. | .f34_1 .. | .f35_0 .. | .f35_1 .. | .f36_0 .. | .f36_1 .. | .f37_0 .. | .f37_1 ..
  | .f42 .. | .f44 .. | .f45 .. | .f46 .. | .f47 .. | .f50 .. | .f51 .. | .f52_0 .. | .f52_1 ..
  | .f53_0 .. | .f53_1 .. | .f54_0 .. | .f54_1 .. | .f55_0 .. | .f55_1 .. | .f56_0 .. | .f56_1 ..
  | .f57_0 .. | .f57_1 .. | .f60 .. | .f61 .. | .f62 .. | .f63_0 .. | .f63_1 .. | .f64_0 .. | .f64_1 ..
  | .f65_0 .. | .f65_1 .. | .f66_0 .. | .f66_1 .. | .f67_0 .. | .f67_1 .. | .f70 .. | .f71 .. | .f72 ..
  | .f73 .. | .f74 .. | .f75 .. | .f76 .. | .f77 .. => false

/-- The functions that set or clear the overflow marker (the table of 10_state.md R29). -/
def writesOvr : Instr → Bool
  | .f00_0 .. | .f00_1 .. | .f01_0 .. | .f01_1 .. | .f02_0 .. | .f02_1 .. | .f04_1 .. | .f05_1 ..
  | .f06_1 .. | .f10_0 .. | .f10_1 .. | .f11_0 .. | .f11_1 .. | .f12_0 .. | .f12_1 .. | .f14_1 ..
  | .f15_1 .. | .f16_1 .. | .f20_0 .. | .f20_1 .. | .f21_0 .. | .f21_1 .. | .f22_0 .. | .f22_1 ..
  | .f24_0 .. | .f24_1 .. | .f25_0 .. | .f25_1 .. | .f26_0 .. | .f26_1 .. | .f30_0 .. | .f30_1 ..
  | .f31_0 .. | .f31_1 .. | .f32_0 .. | .f32_1 .. | .f34_0 .. | .f34_1 .. | .f35_0 .. | .f35_1 ..
  | .f36_0 .. | .f36_1 .. | .f47 .. | .f61 .. | .f62 .. | .f63_0 .. | .f63_1 .. | .f64_0 .. | .f64_1 ..
  | .f65_0 .. | .f65_1 .. | .f66_0 .. | .f66_1 .. | .f67_0 .. | .f67_1 .. | .f70 .. => true
  | .f03_0 .. | .f03_1 .. | .f04_0 .. | .f05_0 .. | .f06_0 .. | .f07_0 .. | .f07_1 .. | .f13_0 ..
  | .f13_1 .. | .f14_0 .. | .f15_0 .. | .f16_0 .. | .f17_0 .. | .f17_1 .. | .f23_0 .. | .f23_1 ..
  | .f27_0 .. | .f27_1 .. | .f33_0 .. | .f33_1 .. | .f37_0 .. | .f37_1 .. | .f40 .. | .f41 .. | .f42 ..
  | .f43 .. | .f44 .. | .f45 .. | .f46 .. | .f50 .. | .f51 .. | .f52_0 .. | .f52_1 .. | .f53_0 ..
  | .f53_1 .. | .f54_0 .. | .f54_1 .. | .f55_0 .. | .f55_1 .. | .f56_0 .. | .f56_1 .. | .f57_0 ..
  | .f57_1 .. | .f60 .. | .f71 .. | .f72 .. | .f73 .. | .f74 .. | .f75 .. | .f76 .. | .f77 .. => false

/-- The functions that write S themselves: the transfers of control and the program break
(44_group4_transfer_control.md R188, R200, R201, R243). -/
def writesS : Instr → Bool
  | .f40 .. | .f41 .. | .f42 .. | .f43 .. | .f44 .. | .f45 .. | .f46 .. | .f47 .. | .f50 .. | .f51 ..
  | .f76 .. => true
  | .f00_0 .. | .f00_1 .. | .f01_0 .. | .f01_1 .. | .f02_0 .. | .f02_1 .. | .f03_0 .. | .f03_1 ..
  | .f04_0 .. | .f04_1 .. | .f05_0 .. | .f05_1 .. | .f06_0 .. | .f06_1 .. | .f07_0 .. | .f07_1 ..
  | .f10_0 .. | .f10_1 .. | .f11_0 .. | .f11_1 .. | .f12_0 .. | .f12_1 .. | .f13_0 .. | .f13_1 ..
  | .f14_0 .. | .f14_1 .. | .f15_0 .. | .f15_1 .. | .f16_0 .. | .f16_1 .. | .f17_0 .. | .f17_1 ..
  | .f20_0 .. | .f20_1 .. | .f21_0 .. | .f21_1 .. | .f22_0 .. | .f22_1 .. | .f23_0 .. | .f23_1 ..
  | .f24_0 .. | .f24_1 .. | .f25_0 .. | .f25_1 .. | .f26_0 .. | .f26_1 .. | .f27_0 .. | .f27_1 ..
  | .f30_0 .. | .f30_1 .. | .f31_0 .. | .f31_1 .. | .f32_0 .. | .f32_1 .. | .f33_0 .. | .f33_1 ..
  | .f34_0 .. | .f34_1 .. | .f35_0 .. | .f35_1 .. | .f36_0 .. | .f36_1 .. | .f37_0 .. | .f37_1 ..
  | .f52_0 .. | .f52_1 .. | .f53_0 .. | .f53_1 .. | .f54_0 .. | .f54_1 .. | .f55_0 .. | .f55_1 ..
  | .f56_0 .. | .f56_1 .. | .f57_0 .. | .f57_1 .. | .f60 .. | .f61 .. | .f62 .. | .f63_0 .. | .f63_1 ..
  | .f64_0 .. | .f64_1 .. | .f65_0 .. | .f65_1 .. | .f66_0 .. | .f66_1 .. | .f67_0 .. | .f67_1 ..
  | .f70 .. | .f71 .. | .f72 .. | .f73 .. | .f74 .. | .f75 .. | .f77 .. => false

/-- The functions that record an event (47_group7_peripheral.md R247). -/
def emitsEvent : Instr → Bool
  | .f70 .. | .f73 .. | .f74 .. | .f76 .. | .f77 .. => true
  | .f00_0 .. | .f00_1 .. | .f01_0 .. | .f01_1 .. | .f02_0 .. | .f02_1 .. | .f03_0 .. | .f03_1 ..
  | .f04_0 .. | .f04_1 .. | .f05_0 .. | .f05_1 .. | .f06_0 .. | .f06_1 .. | .f07_0 .. | .f07_1 ..
  | .f10_0 .. | .f10_1 .. | .f11_0 .. | .f11_1 .. | .f12_0 .. | .f12_1 .. | .f13_0 .. | .f13_1 ..
  | .f14_0 .. | .f14_1 .. | .f15_0 .. | .f15_1 .. | .f16_0 .. | .f16_1 .. | .f17_0 .. | .f17_1 ..
  | .f20_0 .. | .f20_1 .. | .f21_0 .. | .f21_1 .. | .f22_0 .. | .f22_1 .. | .f23_0 .. | .f23_1 ..
  | .f24_0 .. | .f24_1 .. | .f25_0 .. | .f25_1 .. | .f26_0 .. | .f26_1 .. | .f27_0 .. | .f27_1 ..
  | .f30_0 .. | .f30_1 .. | .f31_0 .. | .f31_1 .. | .f32_0 .. | .f32_1 .. | .f33_0 .. | .f33_1 ..
  | .f34_0 .. | .f34_1 .. | .f35_0 .. | .f35_1 .. | .f36_0 .. | .f36_1 .. | .f37_0 .. | .f37_1 ..
  | .f40 .. | .f41 .. | .f42 .. | .f43 .. | .f44 .. | .f45 .. | .f46 .. | .f47 .. | .f50 .. | .f51 ..
  | .f52_0 .. | .f52_1 .. | .f53_0 .. | .f53_1 .. | .f54_0 .. | .f54_1 .. | .f55_0 .. | .f55_1 ..
  | .f56_0 .. | .f56_1 .. | .f57_0 .. | .f57_1 .. | .f60 .. | .f61 .. | .f62 .. | .f63_0 .. | .f63_1 ..
  | .f64_0 .. | .f64_1 .. | .f65_0 .. | .f65_1 .. | .f66_0 .. | .f66_1 .. | .f67_0 .. | .f67_1 ..
  | .f71 .. | .f72 .. | .f75 .. => false

/-- The functions that may take a free value: an input (R245) or an unspecified result (R223, R229, R231). -/
def takesFreeValue : Instr → Bool
  | .f63_0 .. | .f63_1 .. | .f66_0 .. | .f66_1 .. | .f67_0 .. | .f67_1 .. | .f70 .. | .f73 .. => true
  | .f00_0 .. | .f00_1 .. | .f01_0 .. | .f01_1 .. | .f02_0 .. | .f02_1 .. | .f03_0 .. | .f03_1 ..
  | .f04_0 .. | .f04_1 .. | .f05_0 .. | .f05_1 .. | .f06_0 .. | .f06_1 .. | .f07_0 .. | .f07_1 ..
  | .f10_0 .. | .f10_1 .. | .f11_0 .. | .f11_1 .. | .f12_0 .. | .f12_1 .. | .f13_0 .. | .f13_1 ..
  | .f14_0 .. | .f14_1 .. | .f15_0 .. | .f15_1 .. | .f16_0 .. | .f16_1 .. | .f17_0 .. | .f17_1 ..
  | .f20_0 .. | .f20_1 .. | .f21_0 .. | .f21_1 .. | .f22_0 .. | .f22_1 .. | .f23_0 .. | .f23_1 ..
  | .f24_0 .. | .f24_1 .. | .f25_0 .. | .f25_1 .. | .f26_0 .. | .f26_1 .. | .f27_0 .. | .f27_1 ..
  | .f30_0 .. | .f30_1 .. | .f31_0 .. | .f31_1 .. | .f32_0 .. | .f32_1 .. | .f33_0 .. | .f33_1 ..
  | .f34_0 .. | .f34_1 .. | .f35_0 .. | .f35_1 .. | .f36_0 .. | .f36_1 .. | .f37_0 .. | .f37_1 ..
  | .f40 .. | .f41 .. | .f42 .. | .f43 .. | .f44 .. | .f45 .. | .f46 .. | .f47 .. | .f50 .. | .f51 ..
  | .f52_0 .. | .f52_1 .. | .f53_0 .. | .f53_1 .. | .f54_0 .. | .f54_1 .. | .f55_0 .. | .f55_1 ..
  | .f56_0 .. | .f56_1 .. | .f57_0 .. | .f57_1 .. | .f60 .. | .f61 .. | .f62 .. | .f64_0 .. | .f64_1 ..
  | .f65_0 .. | .f65_1 .. | .f71 .. | .f72 .. | .f74 .. | .f75 .. | .f76 .. | .f77 .. => false

/-- The location an instruction stores to, computed as its meaning computes it; none for a form that stores
nothing (30_encoding.md R69). -/
def storedTo (s : State) : Instr → Option Loc
  | .f04_1 _ n => some (location .main (plainN n) s)
  | .f05_1 _ n => some (location .main (plainN n) s)
  | .f06_1 _ n => some (location .main (plainN n) s)
  | .f07_1 _ n => some (location .main (plainN n) s)
  | .f14_1 x n => some (location .main (modifiedN s x n) s)
  | .f15_1 x n => some (location .main (modifiedN s x n) s)
  | .f16_1 x n => some (location .main (modifiedN s x n) s)
  | .f17_1 x n => some (location .main (modifiedN s x n) s)
  | .f24_0 _ n => some (location .fast (plainN n) s)
  | .f24_1 _ n => some (location .indirect (plainN n) s)
  | .f25_0 _ n => some (location .fast (plainN n) s)
  | .f25_1 _ n => some (location .indirect (plainN n) s)
  | .f26_0 _ n => some (location .fast (plainN n) s)
  | .f26_1 _ n => some (location .indirect (plainN n) s)
  | .f27_0 _ n => some (location .fast (plainN n) s)
  | .f27_1 _ n => some (location .indirect (plainN n) s)
  | .f34_0 x n => some (location .fast (modifiedN s x n) s)
  | .f34_1 x n => some (location .indirect (modifiedN s x n) s)
  | .f35_0 x n => some (location .fast (modifiedN s x n) s)
  | .f35_1 x n => some (location .indirect (modifiedN s x n) s)
  | .f36_0 x n => some (location .fast (modifiedN s x n) s)
  | .f36_1 x n => some (location .indirect (modifiedN s x n) s)
  | .f37_0 x n => some (location .fast (modifiedN s x n) s)
  | .f37_1 x n => some (location .indirect (modifiedN s x n) s)
  | .f54_0 x n => some (location .fast (modifiedN s x n) s)
  | .f54_1 x n => some (location .main (modifiedN s x n) s)
  | .f55_0 x n => some (location .fast (modifiedN s x n) s)
  | .f55_1 x n => some (location .main (modifiedN s x n) s)
  | .f56_0 x n => some (location .fast (modifiedN s x n) s)
  | .f56_1 x n => some (location .main (modifiedN s x n) s)
  | .f57_0 x n => some (location .fast (modifiedN s x n) s)
  | .f57_1 x n => some (location .main (modifiedN s x n) s)
  | .f00_0 .. | .f00_1 .. | .f01_0 .. | .f01_1 .. | .f02_0 .. | .f02_1 .. | .f03_0 .. | .f03_1 ..
  | .f04_0 .. | .f05_0 .. | .f06_0 .. | .f07_0 .. | .f10_0 .. | .f10_1 .. | .f11_0 .. | .f11_1 ..
  | .f12_0 .. | .f12_1 .. | .f13_0 .. | .f13_1 .. | .f14_0 .. | .f15_0 .. | .f16_0 .. | .f17_0 ..
  | .f20_0 .. | .f20_1 .. | .f21_0 .. | .f21_1 .. | .f22_0 .. | .f22_1 .. | .f23_0 .. | .f23_1 ..
  | .f30_0 .. | .f30_1 .. | .f31_0 .. | .f31_1 .. | .f32_0 .. | .f32_1 .. | .f33_0 .. | .f33_1 ..
  | .f40 .. | .f41 .. | .f42 .. | .f43 .. | .f44 .. | .f45 .. | .f46 .. | .f47 .. | .f50 .. | .f51 ..
  | .f52_0 .. | .f52_1 .. | .f53_0 .. | .f53_1 .. | .f60 .. | .f61 .. | .f62 .. | .f63_0 .. | .f63_1 ..
  | .f64_0 .. | .f64_1 .. | .f65_0 .. | .f65_1 .. | .f66_0 .. | .f66_1 .. | .f67_0 .. | .f67_1 ..
  | .f70 .. | .f71 .. | .f72 .. | .f73 .. | .f74 .. | .f75 .. | .f76 .. | .f77 .. => none

/-! ### The shapes of the statements -/

/-- `o` is the marker after a result `z`: set if it was set or if `z` is outside -2^19 to 2^19 - 1
(00_scope.md R9, 10_state.md R29). -/
def MarkerAfter (s : State) (z : Int) (o : Bool) : Prop :=
  o = true ↔ s.ovr = true ∨ z < -2 ^ 19 ∨ 2 ^ 19 - 1 < z

/-- `i` completes at `s` with the low 20 bits of `z` in A, the marker as R9 says, and nothing else
changed. -/
def SumIntoA (i : Instr) (s : State) (z : Int) : Prop :=
  ∃ w o, exec i s = .next { s with a := w, ovr := o } ∧ (w.toNat : Int) = z % 2 ^ 20 ∧ MarkerAfter s z o

/-- `i` completes at `s` with the low 20 bits of `z` in B[x], the marker as R9 says, and nothing else
changed, no other index register either. -/
def SumIntoB (i : Instr) (s : State) (x : IndexSpec) (z : Int) : Prop :=
  ∃ b' o, exec i s = .next { s with b := b', ovr := o } ∧ ((b'.get x).toNat : Int) = z % 2 ^ 20 ∧
    (∀ k, k ≠ x → b'.get k = s.b.get k) ∧ MarkerAfter s z o

/-- `i` completes at `s` with `w` in B[x] and nothing else changed, no other index register either. -/
def CopyIntoB (i : Instr) (s : State) (x : IndexSpec) (w : Word) : Prop :=
  ∃ b', exec i s = .next { s with b := b' } ∧ b'.get x = w ∧ ∀ k, k ≠ x → b'.get k = s.b.get k

/-- `i` completes at `s` with `w` at location `l`, every other location of both stores reading as before,
and nothing else changed. -/
def StoresWord (i : Instr) (s : State) (l : Loc) (w : Word) : Prop :=
  ∃ t, exec i s = .next t ∧ t = { s with fs := t.fs, ms := t.ms } ∧ t.peek l = w ∧
    ∀ l', l' ≠ l → t.peek l' = s.peek l'

/-- `i` completes at `s` with the low 20 bits of `z` at location `l`, every other location of both stores
reading as before, the marker as R9 says, and nothing else changed. -/
def StoresSum (i : Instr) (s : State) (l : Loc) (z : Int) : Prop :=
  ∃ t o, exec i s = .next t ∧ t = { s with fs := t.fs, ms := t.ms, ovr := o } ∧
    ((t.peek l).toNat : Int) = z % 2 ^ 20 ∧ (∀ l', l' ≠ l → t.peek l' = s.peek l') ∧ MarkerAfter s z o

/-- `i` with a store operand of the given form: where the operand's locations exist, `P` holds of the
operand location; where the location that holds an indirect address does not exist, or the operand
location does not, `i` stops with AddressOutOfRange naming it (20_memory.md R43, R46;
60_exceptions.md R261). -/
def AtOperand (i : Instr) (form : Form) (nm : Word) (s : State) (P : Loc → Prop) : Prop :=
  if form = .indirect ∧ s.fastSize ≤ (fastLoc nm).number then
    exec i s = .fault (.addressOutOfRange (fastLoc nm))
  else if (location form nm s).number < s.size (location form nm s).store then P (location form nm s)
  else exec i s = .fault (.addressOutOfRange (location form nm s))

/-- `s` with S at the target of a transfer: the store the mode bit names, and the low 19 bits of the
modified operand (44_group4_transfer_control.md R188). -/
def jumped (s : State) (m : Bool) (nm : Word) : State :=
  { s with sf := if m then .main else .fast, sa := BitVec.ofNat 19 nm.toNat }

/-- The word with the given fields: `F x 2^14 + M x 2^13 + X x 2^10 + N` (30_encoding.md R61). -/
def wordOf (f m : Nat) (x : IndexSpec) (n : AddressBits) : Word :=
  BitVec.ofNat 20 (f * 2 ^ 14 + m * 2 ^ 13 + x.toNat * 2 ^ 10 + n.toNat)

/-- The function code, mode bit and index specifier of a word as numbers (30_encoding.md R61). -/
def codeOf (w : Word) : Nat := w.toNat / 2 ^ 14
/-- The mode bit of a word. -/
def modeOf (w : Word) : Nat := w.toNat / 2 ^ 13 % 2
/-- The index specifier of a word. -/
def indexOf (w : Word) : Nat := w.toNat / 2 ^ 10 % 8

/-- `i` executed `k` times in a row. -/
def execTimes (i : Instr) : Nat → State → Result
  | 0, s => .next s
  | k + 1, s =>
    match exec i s with
    | .next t => execTimes i k t
    | .fault r => .fault r
    | .refused r => .refused r

/-- The number AR holds: `sv(A) x 2^19 + R[18:0]` (10_state.md R23). -/
def dividend (s : State) : Int := s.a.toInt * 2 ^ 19 + ((s.r.toNat % 2 ^ 19 : Nat) : Int)

/-- `a'` and `r'` hold the low 39 bits of `z` with bit 19 of R zero (10_state.md R23, `setAR`). -/
def HoldsLow39 (a' r' : Word) (z : Int) : Prop :=
  ((a'.toNat * 2 ^ 19 + r'.toNat : Nat) : Int) = z % 2 ^ 39 ∧ r'.toNat < 2 ^ 19

/-- `z` shifted by `c` places, to the left when `c` is positive, rounded toward minus infinity when it is
negative (46_group6_long_arith_shifts.md R221, R222, R233). -/
def shiftedBy (z c : Int) : Int := if 0 ≤ c then z * 2 ^ c.toNat else z / 2 ^ (-c).toNat

/-- Square root of the radicand `v` (46_group6_long_arith_shifts.md R223): R is cleared and the marker is
as after `v`; where `0 <= v <= 2^19 - 1`, A is the largest `q` with `q x q <= v x 2^19`.  Elsewhere A and
the model's counter of free values are open (log 20). -/
def RootOf (i : Instr) (s : State) (v : Int) : Prop :=
  ∃ q o k, exec i s = .next { s with a := q, r := 0, ovr := o, freeCount := k } ∧ MarkerAfter s v o ∧
    (0 ≤ v → v ≤ 2 ^ 19 - 1 → k = s.freeCount ∧ (q.toNat : Int) * q.toNat ≤ v * 2 ^ 19 ∧
      v * 2 ^ 19 < ((q.toNat : Int) + 1) * (q.toNat + 1))

/-- Double-length product of A and `w` (R225): AR holds the exact product, and the marker is set when both
are -1. -/
def DoubleProduct (i : Instr) (s : State) (w : Word) : Prop :=
  ∃ a' r' o, exec i s = .next { s with a := a', r := r', ovr := o } ∧
    HoldsLow39 a' r' (s.a.toInt * w.toInt) ∧
    (o = true ↔ s.ovr = true ∨ (s.a = 0x80000#20 ∧ w = 0x80000#20))

/-- Rounded product of A and `w` (R227): A is the nearest single-length value, a tie going up, R is
cleared, and the marker is set when both are -1. -/
def RoundedProduct (i : Instr) (s : State) (w : Word) : Prop :=
  ∃ q o, exec i s = .next { s with a := q, r := 0, ovr := o } ∧
    (q.toNat : Int) = (s.a.toInt * w.toInt + 2 ^ 18) / 2 ^ 19 % 2 ^ 20 ∧
    (o = true ↔ s.ovr = true ∨ (s.a = 0x80000#20 ∧ w = 0x80000#20))

/-- Division of `d` by `n` with remainder (R229).  In scale: quotient in R and remainder in A with
`d = q x n + m`, `|m| < |n|` and `m` zero or of the sign of `d`; the marker stays.  With a zero divisor or
a quotient out of scale: the marker is set, and A, R and the counter of free values are open (log 23). -/
def DividesWithRemainder (i : Instr) (s : State) (d n : Int) : Prop :=
  if n ≠ 0 ∧ -2 ^ 19 ≤ Int.tdiv d n ∧ Int.tdiv d n ≤ 2 ^ 19 - 1 then
    ∃ q m, exec i s = .next { s with r := q, a := m } ∧ d = q.toInt * n + m.toInt ∧
      |m.toInt| < |n| ∧ (m.toInt = 0 ∨ (m.toInt < 0 ↔ d < 0))
  else ∃ q m k, exec i s = .next { s with r := q, a := m, ovr := true, freeCount := k }

/-- Rounded division of `d` by `n` (R231): R is cleared.  In scale: A is `floor(d / n + 1/2)` on rationals
and the marker stays.  With a zero divisor or a quotient out of scale: the marker is set, and A and the
counter of free values are open (log 23). -/
def DividesRounded (i : Instr) (s : State) (d n : Int) : Prop :=
  if n ≠ 0 ∧ -2 ^ 19 ≤ ⌊(d : ℚ) / (n : ℚ) + 1 / 2⌋ ∧ ⌊(d : ℚ) / (n : ℚ) + 1 / 2⌋ ≤ 2 ^ 19 - 1 then
    ∃ q, exec i s = .next { s with a := q, r := 0 } ∧ q.toInt = ⌊(d : ℚ) / (n : ℚ) + 1 / 2⌋
  else ∃ q k, exec i s = .next { s with a := q, r := 0, ovr := true, freeCount := k }

/-- `t` is the word an input draws at `s`, and `inputs'` and `c` what the draw leaves (log 27): the first
word the environment has already supplied, else a free value. -/
def Draws (s : State) (t : Word) (inputs' : List Word) (c : Nat) : Prop :=
  (∀ u rest, s.inputs = u :: rest → t = u ∧ inputs' = rest ∧ c = s.freeCount) ∧
  (s.inputs = [] → t = Config.deviceInput s.freeCount ∧ inputs' = [] ∧ c = s.freeCount + 1)

end Sys2Proof.Machine
end

