-- ==== Sys2Proof/Certificates/Slice0/Obligations.lean ====
section
/-! DEFINITION. The statements for the provers.

Each says in its docstring which rules of spec/ it formalises, and names the decisions of
92_eei_decisions.md and the log entries (notes/assumptions/<n>.md) it rests on.  The shapes they share
(`SumIntoA`, `AtOperand`, ...) stand in Sys2Proof/Safety.lean. -/

open Sys2Proof Sys2Proof.Machine

/-- Decoding an encoded instruction gives it back. Decode and encode agree (30_encoding.md R61, R70, R77;
layout by decision D2, log 10). -/
def Obligations.DecodeInvertsEncode : Prop :=
  ∀ i : Instr, decode (encode i) = i

/-- Encoding what a word decodes to gives the word back. Every word decodes to exactly one instruction
(30_encoding.md R77). -/
def Obligations.EncodeInvertsDecode : Prop :=
  ∀ w : Word, encode (decode w) = w

/-- Every row of the opcode table decodes from its word. The complete opcode map, read from words written by
the layout formula (30_encoding.md R61, R70). -/
def Obligations.DecodeReadsTheOpcodeMap : Prop :=
  ∀ (m : Bool) (x : IndexSpec) (n : AddressBits),
    decode (wordOf 0o00 0 x n) = .f00_0 x n ∧
    decode (wordOf 0o00 1 x n) = .f00_1 x n ∧
    decode (wordOf 0o01 0 x n) = .f01_0 x n ∧
    decode (wordOf 0o01 1 x n) = .f01_1 x n ∧
    decode (wordOf 0o02 0 x n) = .f02_0 x n ∧
    decode (wordOf 0o02 1 x n) = .f02_1 x n ∧
    decode (wordOf 0o03 0 x n) = .f03_0 x n ∧
    decode (wordOf 0o03 1 x n) = .f03_1 x n ∧
    decode (wordOf 0o04 0 x n) = .f04_0 x n ∧
    decode (wordOf 0o04 1 x n) = .f04_1 x n ∧
    decode (wordOf 0o05 0 x n) = .f05_0 x n ∧
    decode (wordOf 0o05 1 x n) = .f05_1 x n ∧
    decode (wordOf 0o06 0 x n) = .f06_0 x n ∧
    decode (wordOf 0o06 1 x n) = .f06_1 x n ∧
    decode (wordOf 0o07 0 x n) = .f07_0 x n ∧
    decode (wordOf 0o07 1 x n) = .f07_1 x n ∧
    decode (wordOf 0o10 0 x n) = .f10_0 x n ∧
    decode (wordOf 0o10 1 x n) = .f10_1 x n ∧
    decode (wordOf 0o11 0 x n) = .f11_0 x n ∧
    decode (wordOf 0o11 1 x n) = .f11_1 x n ∧
    decode (wordOf 0o12 0 x n) = .f12_0 x n ∧
    decode (wordOf 0o12 1 x n) = .f12_1 x n ∧
    decode (wordOf 0o13 0 x n) = .f13_0 x n ∧
    decode (wordOf 0o13 1 x n) = .f13_1 x n ∧
    decode (wordOf 0o14 0 x n) = .f14_0 x n ∧
    decode (wordOf 0o14 1 x n) = .f14_1 x n ∧
    decode (wordOf 0o15 0 x n) = .f15_0 x n ∧
    decode (wordOf 0o15 1 x n) = .f15_1 x n ∧
    decode (wordOf 0o16 0 x n) = .f16_0 x n ∧
    decode (wordOf 0o16 1 x n) = .f16_1 x n ∧
    decode (wordOf 0o17 0 x n) = .f17_0 x n ∧
    decode (wordOf 0o17 1 x n) = .f17_1 x n ∧
    decode (wordOf 0o20 0 x n) = .f20_0 x n ∧
    decode (wordOf 0o20 1 x n) = .f20_1 x n ∧
    decode (wordOf 0o21 0 x n) = .f21_0 x n ∧
    decode (wordOf 0o21 1 x n) = .f21_1 x n ∧
    decode (wordOf 0o22 0 x n) = .f22_0 x n ∧
    decode (wordOf 0o22 1 x n) = .f22_1 x n ∧
    decode (wordOf 0o23 0 x n) = .f23_0 x n ∧
    decode (wordOf 0o23 1 x n) = .f23_1 x n ∧
    decode (wordOf 0o24 0 x n) = .f24_0 x n ∧
    decode (wordOf 0o24 1 x n) = .f24_1 x n ∧
    decode (wordOf 0o25 0 x n) = .f25_0 x n ∧
    decode (wordOf 0o25 1 x n) = .f25_1 x n ∧
    decode (wordOf 0o26 0 x n) = .f26_0 x n ∧
    decode (wordOf 0o26 1 x n) = .f26_1 x n ∧
    decode (wordOf 0o27 0 x n) = .f27_0 x n ∧
    decode (wordOf 0o27 1 x n) = .f27_1 x n ∧
    decode (wordOf 0o30 0 x n) = .f30_0 x n ∧
    decode (wordOf 0o30 1 x n) = .f30_1 x n ∧
    decode (wordOf 0o31 0 x n) = .f31_0 x n ∧
    decode (wordOf 0o31 1 x n) = .f31_1 x n ∧
    decode (wordOf 0o32 0 x n) = .f32_0 x n ∧
    decode (wordOf 0o32 1 x n) = .f32_1 x n ∧
    decode (wordOf 0o33 0 x n) = .f33_0 x n ∧
    decode (wordOf 0o33 1 x n) = .f33_1 x n ∧
    decode (wordOf 0o34 0 x n) = .f34_0 x n ∧
    decode (wordOf 0o34 1 x n) = .f34_1 x n ∧
    decode (wordOf 0o35 0 x n) = .f35_0 x n ∧
    decode (wordOf 0o35 1 x n) = .f35_1 x n ∧
    decode (wordOf 0o36 0 x n) = .f36_0 x n ∧
    decode (wordOf 0o36 1 x n) = .f36_1 x n ∧
    decode (wordOf 0o37 0 x n) = .f37_0 x n ∧
    decode (wordOf 0o37 1 x n) = .f37_1 x n ∧
    decode (wordOf 0o40 m.toNat x n) = .f40 m x n ∧
    decode (wordOf 0o41 m.toNat x n) = .f41 m x n ∧
    decode (wordOf 0o42 m.toNat x n) = .f42 m x n ∧
    decode (wordOf 0o43 m.toNat x n) = .f43 m x n ∧
    decode (wordOf 0o44 m.toNat x n) = .f44 m x n ∧
    decode (wordOf 0o45 m.toNat x n) = .f45 m x n ∧
    decode (wordOf 0o46 m.toNat x n) = .f46 m x n ∧
    decode (wordOf 0o47 m.toNat x n) = .f47 m x n ∧
    decode (wordOf 0o50 m.toNat x n) = .f50 m x n ∧
    decode (wordOf 0o51 m.toNat x n) = .f51 m x n ∧
    decode (wordOf 0o52 0 x n) = .f52_0 x n ∧
    decode (wordOf 0o52 1 x n) = .f52_1 x n ∧
    decode (wordOf 0o53 0 x n) = .f53_0 x n ∧
    decode (wordOf 0o53 1 x n) = .f53_1 x n ∧
    decode (wordOf 0o54 0 x n) = .f54_0 x n ∧
    decode (wordOf 0o54 1 x n) = .f54_1 x n ∧
    decode (wordOf 0o55 0 x n) = .f55_0 x n ∧
    decode (wordOf 0o55 1 x n) = .f55_1 x n ∧
    decode (wordOf 0o56 0 x n) = .f56_0 x n ∧
    decode (wordOf 0o56 1 x n) = .f56_1 x n ∧
    decode (wordOf 0o57 0 x n) = .f57_0 x n ∧
    decode (wordOf 0o57 1 x n) = .f57_1 x n ∧
    decode (wordOf 0o60 m.toNat x n) = .f60 m x n ∧
    decode (wordOf 0o61 m.toNat x n) = .f61 m x n ∧
    decode (wordOf 0o62 m.toNat x n) = .f62 m x n ∧
    decode (wordOf 0o63 0 x n) = .f63_0 x n ∧
    decode (wordOf 0o63 1 x n) = .f63_1 x n ∧
    decode (wordOf 0o64 0 x n) = .f64_0 x n ∧
    decode (wordOf 0o64 1 x n) = .f64_1 x n ∧
    decode (wordOf 0o65 0 x n) = .f65_0 x n ∧
    decode (wordOf 0o65 1 x n) = .f65_1 x n ∧
    decode (wordOf 0o66 0 x n) = .f66_0 x n ∧
    decode (wordOf 0o66 1 x n) = .f66_1 x n ∧
    decode (wordOf 0o67 0 x n) = .f67_0 x n ∧
    decode (wordOf 0o67 1 x n) = .f67_1 x n ∧
    decode (wordOf 0o70 m.toNat x n) = .f70 m x n ∧
    decode (wordOf 0o71 m.toNat x n) = .f71 m x n ∧
    decode (wordOf 0o72 m.toNat x n) = .f72 m x n ∧
    decode (wordOf 0o73 m.toNat x n) = .f73 m x n ∧
    decode (wordOf 0o74 m.toNat x n) = .f74 m x n ∧
    decode (wordOf 0o75 m.toNat x n) = .f75 m x n ∧
    decode (wordOf 0o76 m.toNat x n) = .f76 m x n ∧
    decode (wordOf 0o77 m.toNat x n) = .f77 m x n

/-- Words the spec writes out decode as it says. Words of 30_encoding.md R75 and of the worked examples. -/
def Obligations.DecodeReadsTheSpecsWords : Prop :=
  decode 0x2E864#20 = .f13_1 2 100 ∧
  decode 0xE0002#20 = .f70 false 0 2 ∧
  decode 0x00864#20 = .f00_0 2 100 ∧
  decode 0x62064#20 = .f30_1 0 100 ∧
  decode 0x8CCC8#20 = .f43 false 3 200 ∧
  decode 0xA2C30#20 = .f50 true 3 48 ∧
  decode 0xC03FC#20 = .f60 false 0 1020 ∧
  decode 0xDE007#20 = .f67_1 0 7 ∧
  decode 0x42864#20 = .f20_1 2 100 ∧
  decode 0x22064#20 = .f10_1 0 100

/-- Unallocated codes, then a missing index register, are refused; nothing else is. The decoding procedure
and its two refusals (30_encoding.md R71, R72, R77). -/
def Obligations.DecodingProcedureRefusesByName : Prop :=
  ∀ (w : Word) (s : State),
    if codeOf w ∈ [0o71, 0o72, 0o75] ∨
        (codeOf w ∈ [0o04, 0o05, 0o06, 0o07, 0o14, 0o15, 0o16, 0o17] ∧ modeOf w = 0) then
      exec (decode w) s = .refused (.unallocated (BitVec.ofNat 6 (codeOf w)) (modeOf w == 1))
    else if (codeOf w ≤ 0o07 ∨ (0o20 ≤ codeOf w ∧ codeOf w ≤ 0o27) ∨ (0o40 ≤ codeOf w ∧ codeOf w ≤ 0o43)) ∧
        indexOf w = 0 then
      exec (decode w) s = .refused .noIndexRegisterNamed
    else (decode w).wellFormed = true ∧ ∀ r, exec (decode w) s ≠ .refused r

/-- A step runs the instruction at S, with S advanced. Sequencing (10_state.md R27). -/
def Obligations.StepRunsTheDecodedInstruction : Prop :=
  ∀ s : State, s.refusedMark = none → s.ended = false → s.sa.toNat < s.size s.sf → s.sa.toNat + 1 < 2 ^ 19 →
    step s = exec (decode (s.peek ⟨s.sf, s.sa.toNat⟩)) { s with sa := s.sa + 1 }

/-- A fetch beyond the store, and the last 19-bit location, stop the step. Fetch and advance that have no
meaning (10_state.md R27; 20_memory.md R46; log 7, 16). -/
def Obligations.FetchBeyondTheStoreFaults : Prop :=
  ∀ s : State, s.refusedMark = none → s.ended = false →
    (s.size s.sf ≤ s.sa.toNat → step s = .fault (.addressOutOfRange ⟨s.sf, s.sa.toNat⟩)) ∧
    (s.sa.toNat < s.size s.sf → s.sa.toNat = 2 ^ 19 - 1 → step s = .fault (.addressOutOfRange ⟨s.sf, 2 ^ 19⟩))

/-- A refused or ended run takes no further step. No later step is taken (60_exceptions.md R260;
47_group7_peripheral.md R243; log 6, 30). -/
def Obligations.StoppedRunTakesNoStep : Prop :=
  ∀ s : State,
    (∀ r, s.refusedMark = some (.fault r) → step s = .fault r) ∧
    (∀ r, s.refusedMark = some (.refusal r) → step s = .refused r) ∧
    (s.refusedMark = none → s.ended = true → step s = .fault .programmeEnded)

/-- A refused step changes nothing but the Refused mark, and the run stays there. A refusal has no successor
state (60_exceptions.md R260; log 6). -/
def Obligations.RefusedStepOnlyMarksTheRun : Prop :=
  ∀ s : State, s.refusedMark = none →
    (∀ l, step s = .fault (.addressOutOfRange l) → ∀ k,
      runSteps (k + 1) s = { s with refusedMark := some (.fault (.addressOutOfRange l)) }) ∧
    (∀ r, step s = .refused r → ∀ k, runSteps (k + 1) s = { s with refusedMark := some (.refusal r) })

/-- A word placed at S is what the next step runs. Loading from outside the machine (70_reset_and_hazards.md
R281; log 5). -/
def Obligations.PlacedWordIsTheNextInstruction : Prop :=
  ∀ (s : State) (nbits w : Nat) (i : Instr), s.storesWf → s.sa.toNat < s.size s.sf → s.sa.toNat + 1 < 2 ^ 19 →
    decodeTableWord nbits w = some i →
    step (s.withFetchWord nbits w) = exec i { s.withFetchWord nbits w with sa := s.sa + 1 }

/-- The reset state meets the invariant. The invariant holds at reset (the reset values are the model's
choice: log 2, 3, 4, 37). -/
def Obligations.ResetMeetsTheInvariant : Prop :=
  State.reset.Inv

/-- Every step keeps the invariant. The invariant is inductive (20_memory.md R43; 00_scope.md R4;
47_group7_peripheral.md R243; log 2, 4, 30). -/
def Obligations.StepKeepsTheInvariant : Prop :=
  ∀ s t : State, s.Inv → step s = .next t → t.Inv

/-- What every instruction leaves unchanged. The frame of every instruction, from the lists of 10_state.md
R20, R21, R22, R29, the operand forms of 30_encoding.md R69 and the events of R247. -/
def Obligations.EveryInstructionKeepsItsFrame : Prop :=
  ∀ (i : Instr) (s t : State), exec i s = .next t →
    (writesA i = false → t.a = s.a) ∧ (writesR i = false → t.r = s.r) ∧
    (∀ k, writesB i = false ∨ k ≠ i.indexSpec → t.b.get k = s.b.get k) ∧
    (writesOvr i = false → t.ovr = s.ovr) ∧ (writesS i = false → t.sf = s.sf ∧ t.sa = s.sa) ∧
    (∀ l, storedTo s i ≠ some l → t.peek l = s.peek l) ∧
    t.fastSize = s.fastSize ∧ t.mainSize = s.mainSize ∧ t.refusedMark = s.refusedMark ∧
    (emitsEvent i = false → t.events = s.events ∧ t.ended = s.ended) ∧
    (takesFreeValue i = false → t.inputs = s.inputs ∧ t.freeCount = s.freeCount)

/-- The overflow marker is cleared by function 47 only. The marker is sticky (10_state.md R29; decision D9,
log 13). -/
def Obligations.OnlyFunction47ClearsTheMarker : Prop :=
  ∀ (i : Instr) (s t : State), exec i s = .next t → s.ovr = true → t.ovr = false → ∃ m x n, i = .f47 m x n

/-- The event history only grows, by one event of Group 7 at a time. Events are recorded in program order
(47_group7_peripheral.md R247; log 31). -/
def Obligations.HistoryOnlyGrows : Prop :=
  (∀ (i : Instr) (s t : State), exec i s = .next t →
      ∃ es, t.events = s.events ++ es ∧ es.length = if emitsEvent i then 1 else 0) ∧
    ∀ (k : Nat) (s : State), s.events <+: (runSteps k s).events

/-- 00.0, 01.0, 02.0 put the sum with N into B[X]. R100, R102, R104; decisions D4, D6, D8, D10 (log 9, 11,
12, 13). -/
def Obligations.IndexRegisterSumsWithTheDirectOperand : Prop :=
  ∀ (x : IndexSpec) (n : AddressBits) (s : State), x ≠ 0 →
    SumIntoB (.f00_0 x n) s x ((s.b.get x).toInt + (n.toNat : Int)) ∧
    SumIntoB (.f01_0 x n) s x ((s.b.get x).toInt - (n.toNat : Int)) ∧
    SumIntoB (.f02_0 x n) s x (-(s.b.get x).toInt + (n.toNat : Int))

/-- 00.1 to 02.1 and 20 to 22 put the sum with the operand word into B[X]. R101, R103, R105, R140 to R145;
decisions D4, D7, D8, D10, D36 (log 7, 9, 12, 13, 38). -/
def Obligations.IndexRegisterSumsWithAStoreOperand : Prop :=
  ∀ (x : IndexSpec) (n : AddressBits) (s : State), x ≠ 0 →
    AtOperand (.f00_1 x n) .main (plainN n) s (fun l => SumIntoB (.f00_1 x n) s x ((s.b.get x).toInt + (s.peek l).toInt)) ∧
    AtOperand (.f01_1 x n) .main (plainN n) s (fun l => SumIntoB (.f01_1 x n) s x ((s.b.get x).toInt - (s.peek l).toInt)) ∧
    AtOperand (.f02_1 x n) .main (plainN n) s (fun l => SumIntoB (.f02_1 x n) s x (-(s.b.get x).toInt + (s.peek l).toInt)) ∧
    AtOperand (.f20_0 x n) .fast (plainN n) s (fun l => SumIntoB (.f20_0 x n) s x ((s.b.get x).toInt + (s.peek l).toInt)) ∧
    AtOperand (.f21_0 x n) .fast (plainN n) s (fun l => SumIntoB (.f21_0 x n) s x ((s.b.get x).toInt - (s.peek l).toInt)) ∧
    AtOperand (.f22_0 x n) .fast (plainN n) s (fun l => SumIntoB (.f22_0 x n) s x (-(s.b.get x).toInt + (s.peek l).toInt)) ∧
    AtOperand (.f20_1 x n) .indirect (plainN n) s (fun l => SumIntoB (.f20_1 x n) s x ((s.b.get x).toInt + (s.peek l).toInt)) ∧
    AtOperand (.f21_1 x n) .indirect (plainN n) s (fun l => SumIntoB (.f21_1 x n) s x ((s.b.get x).toInt - (s.peek l).toInt)) ∧
    AtOperand (.f22_1 x n) .indirect (plainN n) s (fun l => SumIntoB (.f22_1 x n) s x (-(s.b.get x).toInt + (s.peek l).toInt))

/-- 03.0, 03.1, 23.0 and 23.1 copy the operand into B[X]. R106, R107, R146, R147; decisions D4, D6, D7, D10,
D36 (log 7, 9, 11, 38). -/
def Obligations.IndexRegisterCopies : Prop :=
  ∀ (x : IndexSpec) (n : AddressBits) (s : State), x ≠ 0 →
    CopyIntoB (.f03_0 x n) s x (BitVec.ofNat 20 n.toNat) ∧
    AtOperand (.f03_1 x n) .main (plainN n) s (fun l => CopyIntoB (.f03_1 x n) s x (s.peek l)) ∧
    AtOperand (.f23_0 x n) .fast (plainN n) s (fun l => CopyIntoB (.f23_0 x n) s x (s.peek l)) ∧
    AtOperand (.f23_1 x n) .indirect (plainN n) s (fun l => CopyIntoB (.f23_1 x n) s x (s.peek l))

/-- 04.1 to 06.1 and 24 to 26 put the sum with B[X] into the operand location. R108 to R110, R148 to R153;
decisions D4, D7, D8, D10, D36 (log 7, 9, 12, 13, 38). -/
def Obligations.IndexRegisterSumsIntoTheStore : Prop :=
  ∀ (x : IndexSpec) (n : AddressBits) (s : State), x ≠ 0 → s.storesWf →
    AtOperand (.f04_1 x n) .main (plainN n) s (fun l => StoresSum (.f04_1 x n) s l ((s.b.get x).toInt + (s.peek l).toInt)) ∧
    AtOperand (.f05_1 x n) .main (plainN n) s (fun l => StoresSum (.f05_1 x n) s l ((s.b.get x).toInt - (s.peek l).toInt)) ∧
    AtOperand (.f06_1 x n) .main (plainN n) s (fun l => StoresSum (.f06_1 x n) s l (-(s.b.get x).toInt + (s.peek l).toInt)) ∧
    AtOperand (.f24_0 x n) .fast (plainN n) s (fun l => StoresSum (.f24_0 x n) s l ((s.b.get x).toInt + (s.peek l).toInt)) ∧
    AtOperand (.f25_0 x n) .fast (plainN n) s (fun l => StoresSum (.f25_0 x n) s l ((s.b.get x).toInt - (s.peek l).toInt)) ∧
    AtOperand (.f26_0 x n) .fast (plainN n) s (fun l => StoresSum (.f26_0 x n) s l (-(s.b.get x).toInt + (s.peek l).toInt)) ∧
    AtOperand (.f24_1 x n) .indirect (plainN n) s (fun l => StoresSum (.f24_1 x n) s l ((s.b.get x).toInt + (s.peek l).toInt)) ∧
    AtOperand (.f25_1 x n) .indirect (plainN n) s (fun l => StoresSum (.f25_1 x n) s l ((s.b.get x).toInt - (s.peek l).toInt)) ∧
    AtOperand (.f26_1 x n) .indirect (plainN n) s (fun l => StoresSum (.f26_1 x n) s l (-(s.b.get x).toInt + (s.peek l).toInt))

/-- 07.1, 27.0 and 27.1 store B[X] at the operand location. R111, R154, R155; decisions D4, D7, D10, D36
(log 7, 9, 38). -/
def Obligations.IndexRegisterStores : Prop :=
  ∀ (x : IndexSpec) (n : AddressBits) (s : State), x ≠ 0 → s.storesWf →
    AtOperand (.f07_1 x n) .main (plainN n) s (fun l => StoresWord (.f07_1 x n) s l (s.b.get x)) ∧
    AtOperand (.f27_0 x n) .fast (plainN n) s (fun l => StoresWord (.f27_0 x n) s l (s.b.get x)) ∧
    AtOperand (.f27_1 x n) .indirect (plainN n) s (fun l => StoresWord (.f27_1 x n) s l (s.b.get x))

/-- A B-naming function with X = 0 is refused. 30_encoding.md R64, R72; decision D4 (log 9). -/
def Obligations.BNamingFunctionsNeedAnIndexRegister : Prop :=
  ∀ (i : Instr) (s : State), i.bNaming = true → i.indexSpec = 0 → exec i s = .refused .noIndexRegisterNamed

/-- 10.0, 11.0, 12.0 put the sum with the direct operand into A. R120, R122, R124; decisions D6, D8 (log 11,
12). -/
def Obligations.AccumulatorSumsWithTheDirectOperand : Prop :=
  ∀ (x : IndexSpec) (n : AddressBits) (s : State),
    SumIntoA (.f10_0 x n) s (s.a.toInt + (modifiedN s x n).toInt) ∧
    SumIntoA (.f11_0 x n) s (s.a.toInt - (modifiedN s x n).toInt) ∧
    SumIntoA (.f12_0 x n) s (-s.a.toInt + (modifiedN s x n).toInt)

/-- 10.1 to 12.1 and 30 to 32 put the sum with the operand word into A. R121, R123, R125, R160 to R165;
decisions D7, D8, D36 (log 7, 12, 38). -/
def Obligations.AccumulatorSumsWithAStoreOperand : Prop :=
  ∀ (x : IndexSpec) (n : AddressBits) (s : State),
    AtOperand (.f10_1 x n) .main (modifiedN s x n) s (fun l => SumIntoA (.f10_1 x n) s (s.a.toInt + (s.peek l).toInt)) ∧
    AtOperand (.f11_1 x n) .main (modifiedN s x n) s (fun l => SumIntoA (.f11_1 x n) s (s.a.toInt - (s.peek l).toInt)) ∧
    AtOperand (.f12_1 x n) .main (modifiedN s x n) s (fun l => SumIntoA (.f12_1 x n) s (-s.a.toInt + (s.peek l).toInt)) ∧
    AtOperand (.f30_0 x n) .fast (modifiedN s x n) s (fun l => SumIntoA (.f30_0 x n) s (s.a.toInt + (s.peek l).toInt)) ∧
    AtOperand (.f31_0 x n) .fast (modifiedN s x n) s (fun l => SumIntoA (.f31_0 x n) s (s.a.toInt - (s.peek l).toInt)) ∧
    AtOperand (.f32_0 x n) .fast (modifiedN s x n) s (fun l => SumIntoA (.f32_0 x n) s (-s.a.toInt + (s.peek l).toInt)) ∧
    AtOperand (.f30_1 x n) .indirect (modifiedN s x n) s (fun l => SumIntoA (.f30_1 x n) s (s.a.toInt + (s.peek l).toInt)) ∧
    AtOperand (.f31_1 x n) .indirect (modifiedN s x n) s (fun l => SumIntoA (.f31_1 x n) s (s.a.toInt - (s.peek l).toInt)) ∧
    AtOperand (.f32_1 x n) .indirect (modifiedN s x n) s (fun l => SumIntoA (.f32_1 x n) s (-s.a.toInt + (s.peek l).toInt))

/-- 13.1 and 33.0 load A from the main and the fast store. R127, R166. -/
def Obligations.AccumulatorLoadsAStoreWord : Prop :=
  ∀ (x : IndexSpec) (n : AddressBits) (s : State),
    AtOperand (.f13_1 x n) .main (modifiedN s x n) s (fun l => exec (.f13_1 x n) s = .next { s with a := s.peek l }) ∧
    AtOperand (.f33_0 x n) .fast (modifiedN s x n) s (fun l => exec (.f33_0 x n) s = .next { s with a := s.peek l })

/-- 13.0, 33.1 and 37.1 copy by the direct operand and the indirect form. R126, R167, R175; decisions D6,
D7, D36 (log 7, 11, 38). -/
def Obligations.AccumulatorCopiesDirectAndIndirect : Prop :=
  ∀ (x : IndexSpec) (n : AddressBits) (s : State),
    exec (.f13_0 x n) s = .next { s with a := modifiedN s x n } ∧
    AtOperand (.f33_1 x n) .indirect (modifiedN s x n) s (fun l => exec (.f33_1 x n) s = .next { s with a := s.peek l }) ∧
    (s.storesWf → AtOperand (.f37_1 x n) .indirect (modifiedN s x n) s (fun l => StoresWord (.f37_1 x n) s l s.a))

/-- 14.1 to 16.1 and 34 to 36 put the sum with A into the operand location. R128 to R130, R168 to R173;
decisions D7, D8, D36 (log 7, 12, 38). -/
def Obligations.AccumulatorSumsIntoTheStore : Prop :=
  ∀ (x : IndexSpec) (n : AddressBits) (s : State), s.storesWf →
    AtOperand (.f14_1 x n) .main (modifiedN s x n) s (fun l => StoresSum (.f14_1 x n) s l (s.a.toInt + (s.peek l).toInt)) ∧
    AtOperand (.f15_1 x n) .main (modifiedN s x n) s (fun l => StoresSum (.f15_1 x n) s l (s.a.toInt - (s.peek l).toInt)) ∧
    AtOperand (.f16_1 x n) .main (modifiedN s x n) s (fun l => StoresSum (.f16_1 x n) s l (-s.a.toInt + (s.peek l).toInt)) ∧
    AtOperand (.f34_0 x n) .fast (modifiedN s x n) s (fun l => StoresSum (.f34_0 x n) s l (s.a.toInt + (s.peek l).toInt)) ∧
    AtOperand (.f35_0 x n) .fast (modifiedN s x n) s (fun l => StoresSum (.f35_0 x n) s l (s.a.toInt - (s.peek l).toInt)) ∧
    AtOperand (.f36_0 x n) .fast (modifiedN s x n) s (fun l => StoresSum (.f36_0 x n) s l (-s.a.toInt + (s.peek l).toInt)) ∧
    AtOperand (.f34_1 x n) .indirect (modifiedN s x n) s (fun l => StoresSum (.f34_1 x n) s l (s.a.toInt + (s.peek l).toInt)) ∧
    AtOperand (.f35_1 x n) .indirect (modifiedN s x n) s (fun l => StoresSum (.f35_1 x n) s l (s.a.toInt - (s.peek l).toInt)) ∧
    AtOperand (.f36_1 x n) .indirect (modifiedN s x n) s (fun l => StoresSum (.f36_1 x n) s l (-s.a.toInt + (s.peek l).toInt))

/-- 17.1 and 37.0 store A in the main and the fast store. R131, R174. -/
def Obligations.AccumulatorStores : Prop :=
  ∀ (x : IndexSpec) (n : AddressBits) (s : State), s.storesWf →
    AtOperand (.f17_1 x n) .main (modifiedN s x n) s (fun l => StoresWord (.f17_1 x n) s l s.a) ∧
    AtOperand (.f37_0 x n) .fast (modifiedN s x n) s (fun l => StoresWord (.f37_0 x n) s l s.a)

/-- 40 and 41 count B[X] and jump unless it is zero. R180, R181; decisions D11, D13 (log 14, 15). -/
def Obligations.CountingJumps : Prop :=
  ∀ (m : Bool) (x : IndexSpec) (n : AddressBits) (s : State), x ≠ 0 →
    (s.b.get x = 0 → exec (.f40 m x n) s = .next s ∧ exec (.f41 m x n) s = .next s) ∧
    (s.b.get x ≠ 0 →
      (∃ b', exec (.f40 m x n) s = .next { jumped s m (plainN n) with b := b' } ∧
        (b'.get x).toNat = ((s.b.get x).toNat + 1) % 2 ^ 20 ∧ ∀ k, k ≠ x → b'.get k = s.b.get k) ∧
      (∃ b', exec (.f41 m x n) s = .next { jumped s m (plainN n) with b := b' } ∧
        (b'.get x).toNat = (s.b.get x).toNat - 1 ∧ ∀ k, k ≠ x → b'.get k = s.b.get k))

/-- 42 jumps exactly when B[X] is zero. R182. -/
def Obligations.JumpIfIndexRegisterZero : Prop :=
  ∀ (m : Bool) (x : IndexSpec) (n : AddressBits) (s : State),
    if x = 0 then exec (.f42 m x n) s = .refused .noIndexRegisterNamed
    else if (s.b.get x).toNat = 0 then exec (.f42 m x n) s = .next (jumped s m (plainN n))
    else exec (.f42 m x n) s = .next s

/-- 43 saves S in B[X] with the store bit in the sign digit, and jumps. R183; decisions D12, D13 (log 15). -/
def Obligations.SubroutineJumpSavesTheLink : Prop :=
  ∀ (m : Bool) (x : IndexSpec) (n : AddressBits) (s : State), x ≠ 0 →
    ∃ b', exec (.f43 m x n) s = .next { jumped s m (plainN n) with b := b' } ∧
      (b'.get x).toNat = (if s.sf = .main then 2 ^ 19 else 0) + s.sa.toNat ∧
      ∀ k, k ≠ x → b'.get k = s.b.get k

/-- 44, 45 and 46 jump on the sign and the zero of A. R184, R185, R186. -/
def Obligations.JumpsOnTheAccumulator : Prop :=
  ∀ (m : Bool) (x : IndexSpec) (n : AddressBits) (s : State),
    (exec (.f44 m x n) s = if 0 ≤ s.a.toInt then .next (jumped s m (modifiedN s x n)) else .next s) ∧
    (exec (.f45 m x n) s = if s.a.toInt < 0 then .next (jumped s m (modifiedN s x n)) else .next s) ∧
    (exec (.f46 m x n) s = if s.a.toNat = 0 then .next (jumped s m (modifiedN s x n)) else .next s) ∧
    (0 ≤ s.a.toInt ↔ s.a.getLsbD 19 = false) ∧ (s.a.toInt < 0 ↔ s.a.getLsbD 19 = true)

/-- 47 clears the marker and jumps if it was set. R187. -/
def Obligations.TestOverflowClearsTheMarker : Prop :=
  ∀ (m : Bool) (x : IndexSpec) (n : AddressBits) (s : State),
    exec (.f47 m x n) s =
      if s.ovr = true then .next { jumped s m (modifiedN s x n) with ovr := false } else .next s

/-- No function of Group 4 sets the overflow marker. R189. -/
def Obligations.GroupFourNeverSetsTheMarker : Prop :=
  ∀ (m : Bool) (x : IndexSpec) (n : AddressBits) (s : State),
    (∀ t, exec (.f40 m x n) s = .next t ∨ exec (.f41 m x n) s = .next t ∨ exec (.f42 m x n) s = .next t ∨
      exec (.f43 m x n) s = .next t ∨ exec (.f44 m x n) s = .next t ∨ exec (.f45 m x n) s = .next t ∨
      exec (.f46 m x n) s = .next t → t.ovr = s.ovr) ∧
    (∃ t, exec (.f47 m x n) s = .next t ∧ t.ovr = false) ∧
    (x ≠ 0 → s.b.get x = 0x7FFFF#20 →
      ∃ t, exec (.f40 m x n) s = .next t ∧ t.b.get x = 0x80000#20 ∧ t.ovr = s.ovr) ∧
    (x ≠ 0 → s.b.get x = 0xFFFFF#20 →
      ∃ t, exec (.f40 m x n) s = .next t ∧ t.b.get x = 0#20 ∧ t.ovr = s.ovr) ∧
    (x ≠ 0 → s.b.get x = 0x80000#20 →
      ∃ t, exec (.f41 m x n) s = .next t ∧ t.b.get x = 0x7FFFF#20 ∧ t.ovr = s.ovr)

/-- A jump modified by the link returns to the instruction after the 43. R183, R200; decisions D12, D13 (log
15). -/
def Obligations.SubroutineReturnReachesTheCaller : Prop :=
  ∀ (m : Bool) (x : IndexSpec) (n : AddressBits) (s : State), x ≠ 0 →
    ∃ t, exec (.f43 m x n) s = .next t ∧ ∀ (u : State) (m' : Bool), u.b.get x = t.b.get x →
      exec (.f50 m' x 0) u = .next { u with sf := if m' then .main else .fast, sa := s.sa }

/-- A loop closed by 41 with b = k jumps k times. R181; decision D11 (log 14). -/
def Obligations.CountDownLoopJumpsExactlyOftenEnough : Prop :=
  ∀ (m : Bool) (x : IndexSpec) (n : AddressBits) (s : State), ∀ j, x ≠ 0 → j ≤ (s.b.get x).toNat →
    ∃ t, execTimes (.f41 m x n) j s = .next t ∧ (t.b.get x).toNat = (s.b.get x).toNat - j ∧
      (0 < j → t.sf = (if m then .main else .fast) ∧ t.sa.toNat = n.toNat) ∧
      (j = (s.b.get x).toNat → exec (.f41 m x n) t = .next t)

/-- 50 jumps to the modified address in the store M names. R200; decision D13 (log 15). -/
def Obligations.JumpGoesToTheTarget : Prop :=
  ∀ (m : Bool) (x : IndexSpec) (n : AddressBits) (s : State), exec (.f50 m x n) s = .next (jumped s m (modifiedN s x n))

/-- 51 jumps back from the next location by the modified operand. R201; decision D37 (log 15). -/
def Obligations.JumpBackwardsSubtractsFromS : Prop :=
  ∀ (m : Bool) (x : IndexSpec) (n : AddressBits) (s : State),
    ∃ a' : Address, exec (.f51 m x n) s = .next { s with sf := if m then .main else .fast, sa := a' } ∧
      (a'.toNat : Int) = ((s.sa.toNat : Int) - (modifiedN s x n).toNat) % 2 ^ 19

/-- 52 puts the digit-by-digit conjunction with the operand into A. R202, R203. -/
def Obligations.CollateToA : Prop :=
  ∀ (x : IndexSpec) (n : AddressBits) (s : State),
    AtOperand (.f52_0 x n) .fast (modifiedN s x n) s (fun l => ∃ w, exec (.f52_0 x n) s = .next { s with a := w } ∧ ∀ k < 20, w.getLsbD k = (s.a.getLsbD k && (s.peek l).getLsbD k)) ∧
    AtOperand (.f52_1 x n) .main (modifiedN s x n) s (fun l => ∃ w, exec (.f52_1 x n) s = .next { s with a := w } ∧ ∀ k < 20, w.getLsbD k = (s.a.getLsbD k && (s.peek l).getLsbD k))

/-- 56 puts the conjunction with A into the operand location. R210, R211. -/
def Obligations.CollateToStore : Prop :=
  ∀ (x : IndexSpec) (n : AddressBits) (s : State), s.storesWf →
    AtOperand (.f56_0 x n) .fast (modifiedN s x n) s (fun l => StoresWord (.f56_0 x n) s l (s.a &&& s.peek l)) ∧
    AtOperand (.f56_1 x n) .main (modifiedN s x n) s (fun l => StoresWord (.f56_1 x n) s l (s.a &&& s.peek l))

/-- 53 loads R and 57 stores R, all 20 bits. R204, R205, R212, R213; decision D41 (log 36). -/
def Obligations.AuxiliaryRegisterMoves : Prop :=
  ∀ (x : IndexSpec) (n : AddressBits) (s : State),
    AtOperand (.f53_0 x n) .fast (modifiedN s x n) s (fun l => exec (.f53_0 x n) s = .next { s with r := s.peek l }) ∧
    AtOperand (.f53_1 x n) .main (modifiedN s x n) s (fun l => exec (.f53_1 x n) s = .next { s with r := s.peek l }) ∧
    (s.storesWf → AtOperand (.f57_0 x n) .fast (modifiedN s x n) s (fun l => StoresWord (.f57_0 x n) s l s.r)) ∧
    (s.storesWf → AtOperand (.f57_1 x n) .main (modifiedN s x n) s (fun l => StoresWord (.f57_1 x n) s l s.r))

/-- 54 and 55 count a location up or down by one, silently. R206 to R209; decision D23, conflict C5 (log
24). -/
def Obligations.CountsInStore : Prop :=
  ∀ (x : IndexSpec) (n : AddressBits) (s : State), s.storesWf →
    AtOperand (.f54_0 x n) .fast (modifiedN s x n) s (fun l => ∃ w : Word, StoresWord (.f54_0 x n) s l w ∧ w.toNat = ((s.peek l).toNat + 1) % 2 ^ 20) ∧
    AtOperand (.f54_1 x n) .main (modifiedN s x n) s (fun l => ∃ w : Word, StoresWord (.f54_1 x n) s l w ∧ w.toNat = ((s.peek l).toNat + 1) % 2 ^ 20) ∧
    AtOperand (.f55_0 x n) .fast (modifiedN s x n) s (fun l => ∃ w : Word, StoresWord (.f55_0 x n) s l w ∧ w.toNat = ((s.peek l).toNat + (2 ^ 20 - 1)) % 2 ^ 20) ∧
    AtOperand (.f55_1 x n) .main (modifiedN s x n) s (fun l => ∃ w : Word, StoresWord (.f55_1 x n) s l w ∧ w.toNat = ((s.peek l).toNat + (2 ^ 20 - 1)) % 2 ^ 20)

/-- The shift count is read from the low ten bits of the modified operand. R67. -/
def Obligations.ShiftCountFromTheModifiedAddress : Prop :=
  (∀ nm : Word,
      (nm.toNat % 1024 < 512 → shiftCount nm = ((nm.toNat % 64 : Nat) : Int)) ∧
      (512 ≤ nm.toNat % 1024 →
        shiftCount nm = -(((1024 - nm.toNat % 1024) % 1024 % 64 : Nat) : Int)) ∧
      -63 ≤ shiftCount nm ∧ shiftCount nm ≤ 63) ∧
    shiftCount 512#20 = 0 ∧ shiftCount 1023#20 = -1 ∧ shiftCount 1021#20 = -3 ∧
    ∀ (s : State) (x : IndexSpec), x ≠ 0 → (s.b.get x).toInt = -8 → shiftCount (modifiedN s x 5) = -3

/-- 60 shifts A logically, zeros entering at either end. R220; decisions D16, D17, D38 (log 17, 18). -/
def Obligations.LogicalShiftOfA : Prop :=
  ∀ (m : Bool) (x : IndexSpec) (n : AddressBits) (s : State),
    ∃ w, exec (.f60 m x n) s = .next { s with a := w } ∧ ∀ k < 20, w.getLsbD k =
      (decide (0 ≤ (k : Int) - shiftCount (modifiedN s x n)) &&
        s.a.getLsbD ((k : Int) - shiftCount (modifiedN s x n)).toNat)

/-- 61 shifts A arithmetically and marks an overflow. R221; decisions D8, D16, D17 (log 12, 17, 18). -/
def Obligations.ArithmeticalShiftOfA : Prop :=
  ∀ (m : Bool) (x : IndexSpec) (n : AddressBits) (s : State), SumIntoA (.f61 m x n) s (shiftedBy s.a.toInt (shiftCount (modifiedN s x n)))

/-- 62 shifts AR arithmetically and marks an overflow. R222; decisions D8, D16, D17, D18, D39 (log 12, 17,
18, 36). -/
def Obligations.DoubleLengthShift : Prop :=
  ∀ (m : Bool) (x : IndexSpec) (n : AddressBits) (s : State),
    ∃ a' r' o, exec (.f62 m x n) s = .next { s with a := a', r := r', ovr := o } ∧
      HoldsLow39 a' r' (shiftedBy (dividend s) (shiftCount (modifiedN s x n))) ∧
      (o = true ↔ s.ovr = true ∨ shiftedBy (dividend s) (shiftCount (modifiedN s x n)) < -2 ^ 38 ∨
        2 ^ 38 - 1 < shiftedBy (dividend s) (shiftCount (modifiedN s x n)))

/-- 63 puts the truncated root of the sum into A and clears R. R223, R224; decision D19 (log 19, 20). -/
def Obligations.SquareRootIsTheLargestRoot : Prop :=
  ∀ (x : IndexSpec) (n : AddressBits) (s : State),
    AtOperand (.f63_0 x n) .fast (modifiedN s x n) s (fun l => RootOf (.f63_0 x n) s (s.a.toInt + (s.peek l).toInt)) ∧
    AtOperand (.f63_1 x n) .main (modifiedN s x n) s (fun l => RootOf (.f63_1 x n) s (s.a.toInt + (s.peek l).toInt))

/-- 64 puts the exact product into AR. R225, R226; decisions D8, D39 (log 12, 36). -/
def Obligations.DoubleLengthProductIsExact : Prop :=
  ∀ (x : IndexSpec) (n : AddressBits) (s : State),
    AtOperand (.f64_0 x n) .fast (modifiedN s x n) s (fun l => DoubleProduct (.f64_0 x n) s (s.peek l)) ∧
    AtOperand (.f64_1 x n) .main (modifiedN s x n) s (fun l => DoubleProduct (.f64_1 x n) s (s.peek l))

/-- 65 puts the rounded product into A and clears R. R227, R228; decisions D20, D21 (log 21). -/
def Obligations.RoundedProductIsTheNearest : Prop :=
  ∀ (x : IndexSpec) (n : AddressBits) (s : State),
    AtOperand (.f65_0 x n) .fast (modifiedN s x n) s (fun l => RoundedProduct (.f65_0 x n) s (s.peek l)) ∧
    AtOperand (.f65_1 x n) .main (modifiedN s x n) s (fun l => RoundedProduct (.f65_1 x n) s (s.peek l))

/-- 66 leaves the quotient in R and a remainder of the dividend's sign in A. R229, R230; decision D22 (log
22, 23). -/
def Obligations.DivisionLeavesQuotientAndRemainder : Prop :=
  ∀ (x : IndexSpec) (n : AddressBits) (s : State),
    AtOperand (.f66_0 x n) .fast (modifiedN s x n) s (fun l => DividesWithRemainder (.f66_0 x n) s (dividend s) (s.peek l).toInt) ∧
    AtOperand (.f66_1 x n) .main (modifiedN s x n) s (fun l => DividesWithRemainder (.f66_1 x n) s (dividend s) (s.peek l).toInt)

/-- 67 puts the rounded quotient into A and clears R. R231, R232; decisions D20, D22 (log 21, 23). -/
def Obligations.RoundedDivisionIsTheNearest : Prop :=
  ∀ (x : IndexSpec) (n : AddressBits) (s : State),
    AtOperand (.f67_0 x n) .fast (modifiedN s x n) s (fun l => DividesRounded (.f67_0 x n) s (dividend s) (s.peek l).toInt) ∧
    AtOperand (.f67_1 x n) .main (modifiedN s x n) s (fun l => DividesRounded (.f67_1 x n) s (dividend s) (s.peek l).toInt)

/-- 70 adds the drawn word to A and records the input. R240; decisions D16, D24, D25, D28 (log 17, 25, 26,
27). -/
def Obligations.InputAndAddSumsTheDrawnWord : Prop :=
  ∀ (m : Bool) (x : IndexSpec) (n : AddressBits) (s : State),
    ∃ t inputs' c w o, Draws s t inputs' c ∧
      exec (.f70 m x n) s = .next { s with
        a := w, ovr := o, events := s.events ++ [.devIn (deviceOf (modifiedN s x n)) t], inputs := inputs',
        freeCount := c } ∧
      (w.toNat : Int) = (s.a.toInt + t.toInt) % 2 ^ 20 ∧ MarkerAfter s (s.a.toInt + t.toInt) o

/-- 73 puts the drawn word into A and records the input. R241; decisions D16, D25, D28 (log 17, 26, 27);
where the word comes from (`Draws`) is the model's choice (log 27, 37). -/
def Obligations.InputLoadsTheDrawnWord : Prop :=
  ∀ (m : Bool) (x : IndexSpec) (n : AddressBits) (s : State),
    ∃ t inputs' c, Draws s t inputs' c ∧
      exec (.f73 m x n) s = .next { s with
        a := t, events := s.events ++ [.devIn (deviceOf (modifiedN s x n)) t], inputs := inputs',
        freeCount := c }

/-- 74 sends the P bits to the controller E and D name, and changes nothing else. R242. -/
def Obligations.CommandRecordsThePBits : Prop :=
  ∀ (m : Bool) (x : IndexSpec) (n : AddressBits) (s : State),
    exec (.f74 m x n) s = .next { s with events := s.events ++
      [.devCmd (deviceOf (modifiedN s x n)).e (deviceOf (modifiedN s x n)).d (deviceOf (modifiedN s x n)).p] }

/-- 76 records the re-entry point in S and in the history, and ends the run. R243; decisions D16, D27 (log
17, 30). -/
def Obligations.ProgramBreakEndsTheRun : Prop :=
  ∀ (m : Bool) (x : IndexSpec) (n : AddressBits) (s : State),
    ∃ t, exec (.f76 m x n) s = .next t ∧
      t = { jumped s m (modifiedN s x n) with
        events := s.events ++
          [.programBreak (if m then .main else .fast) (BitVec.ofNat 19 (modifiedN s x n).toNat)],
        ended := true } ∧
      (s.refusedMark = none → step t = .fault .programmeEnded)

/-- 77 outputs A and writes no store location. R244; conflict C12, decisions D16, D25, D26, D28 (log 17, 26,
27, 28). -/
def Obligations.OutputRecordsA : Prop :=
  ∀ (m : Bool) (x : IndexSpec) (n : AddressBits) (s : State),
    exec (.f77 m x n) s =
      .next { s with events := s.events ++ [.devOut (deviceOf (modifiedN s x n)) s.a] }

/-- The unallocated functions are refused with F and M. 30_encoding.md R71, 47_group7_peripheral.md R246;
decision D15 (log 8). -/
def Obligations.UnallocatedFunctionsAreRefused : Prop :=
  ∀ (m : Bool) (x : IndexSpec) (n : AddressBits) (s : State),
    exec (.f04_0 x n) s = .refused (.unallocated 0o04 false) ∧
    exec (.f05_0 x n) s = .refused (.unallocated 0o05 false) ∧
    exec (.f06_0 x n) s = .refused (.unallocated 0o06 false) ∧
    exec (.f07_0 x n) s = .refused (.unallocated 0o07 false) ∧
    exec (.f14_0 x n) s = .refused (.unallocated 0o14 false) ∧
    exec (.f15_0 x n) s = .refused (.unallocated 0o15 false) ∧
    exec (.f16_0 x n) s = .refused (.unallocated 0o16 false) ∧
    exec (.f17_0 x n) s = .refused (.unallocated 0o17 false) ∧
    exec (.f71 m x n) s = .refused (.unallocated 0o71 m) ∧
    exec (.f72 m x n) s = .refused (.unallocated 0o72 m) ∧
    exec (.f75 m x n) s = .refused (.unallocated 0o75 m)

/-- Nm is N, or N plus B[X] modulo 2^20. 30_encoding.md R66; decisions D4, D5 (log 9, 11). -/
def Obligations.ModifiedOperandIsTheWrappedSum : Prop :=
  ∀ (s : State) (x : IndexSpec) (n : AddressBits), (plainN n).toNat = n.toNat ∧
    (modifiedN s x n).toNat = if x = 0 then n.toNat else (n.toNat + (s.b.get x).toNat) % 2 ^ 20

/-- Location numbers are the low 19 bits, device fields the low ten. 20_memory.md R45; 30_encoding.md R68,
R69; decisions D7, D13, D25, D36 (log 7, 15, 26, 38). -/
def Obligations.LocationsAndDevicesFromTheOperand : Prop :=
  ∀ (s : State) (nm : Word),
    location .fast nm s = ⟨.fast, nm.toNat % 2 ^ 19⟩ ∧ location .main nm s = ⟨.main, nm.toNat % 2 ^ 19⟩ ∧
    location .indirect nm s = ⟨.main, (s.peek ⟨.fast, nm.toNat % 2 ^ 19⟩).toNat % 2 ^ 19⟩ ∧
    (deviceOf nm).e.toNat = nm.toNat % 1024 / 512 ∧ (deviceOf nm).p.toNat = nm.toNat % 512 / 16 ∧
    (deviceOf nm).d.toNat = nm.toNat % 16

/-- What is written to AR is what AR then holds. 10_state.md R23; decision D39 (log 36). -/
def Obligations.DoubleLengthRegisterRoundTrip : Prop :=
  (∀ (s : State) (z : Int), -2 ^ 38 ≤ z → z ≤ 2 ^ 38 - 1 →
      doubleValue (s.setAR z).a (s.setAR z).r = z ∧ (s.setAR z).r.getLsbD 19 = false) ∧
    ∀ a r : Word, -2 ^ 38 ≤ doubleValue a r ∧ doubleValue a r ≤ 2 ^ 38 - 1
end

