-- ==== Sys2Proof/Laws/Decode.lean ====
section
/-! SUPPORT. The fields of a word: putting them together and taking them apart again (30_encoding.md R61). -/

namespace Sys2Proof

/-- The word of given fields as a number (R61). -/
theorem toNat_joinWord (f : Fields) : (joinWord f).toNat =
    (f.group.val * 8 + f.digit.val) * 2 ^ 14 + f.m.toNat * 2 ^ 13 + f.x.toNat * 2 ^ 10 + f.n.toNat := by
  obtain ⟨g, d, m, x, n⟩ := f
  simp only [joinWord, Config.functionLow, Config.modeLow, Config.indexLow, Config.addressLow,
    BitVec.toNat_ofNat]
  have := g.isLt; have := d.isLt; have := x.isLt; have := n.isLt; have := m.toNat_lt
  omega

/-- The fields of a word as numbers (R61). -/
theorem splitWord_toNat (w : Word) :
    (splitWord w).group.val = w.toNat / 2 ^ 17 % 8 ∧ (splitWord w).digit.val = w.toNat / 2 ^ 14 % 8 ∧
    (splitWord w).m.toNat = w.toNat / 2 ^ 13 % 2 ∧ (splitWord w).x.toNat = w.toNat / 2 ^ 10 % 8 ∧
    (splitWord w).n.toNat = w.toNat % 2 ^ 10 := by
  refine ⟨?_, ?_, ?_, ?_, ?_⟩
  · simp [splitWord, Config.functionLow, Nat.shiftRight_eq_div_pow]
  · simp [splitWord, Config.functionLow, Nat.shiftRight_eq_div_pow]
  · have h : w.toNat / 2 ^ 13 % 2 < 2 := Nat.mod_lt _ (by decide)
    simp only [splitWord, Config.modeLow, BitVec.getLsbD, Nat.testBit_eq_decide_div_mod_eq]
    by_cases hb : w.toNat / 2 ^ 13 % 2 = 1
    · rw [hb]; rfl
    · rw [decide_eq_false hb, Bool.toNat_false]; omega
  · simp [splitWord, Config.indexLow, Nat.shiftRight_eq_div_pow]
  · simp [splitWord, Config.addressLow]

end Sys2Proof
end

