-- ==== Sys2Proof/Laws/State.lean ====
section
/-! SUPPORT. One lemma per field per update of `State`, so that no later proof unfolds a record update. -/

namespace Sys2Proof.Machine

@[simp] theorem State.setA_a (s : State) (v : Word) : (s.setA v).a = v := rfl
@[simp] theorem State.setA_r (s : State) (v : Word) : (s.setA v).r = s.r := rfl
@[simp] theorem State.setA_b (s : State) (v : Word) : (s.setA v).b = s.b := rfl
@[simp] theorem State.setA_sf (s : State) (v : Word) : (s.setA v).sf = s.sf := rfl
@[simp] theorem State.setA_sa (s : State) (v : Word) : (s.setA v).sa = s.sa := rfl
@[simp] theorem State.setA_ovr (s : State) (v : Word) : (s.setA v).ovr = s.ovr := rfl
@[simp] theorem State.setA_fs (s : State) (v : Word) : (s.setA v).fs = s.fs := rfl
@[simp] theorem State.setA_ms (s : State) (v : Word) : (s.setA v).ms = s.ms := rfl
@[simp] theorem State.setA_fastSize (s : State) (v : Word) : (s.setA v).fastSize = s.fastSize := rfl
@[simp] theorem State.setA_mainSize (s : State) (v : Word) : (s.setA v).mainSize = s.mainSize := rfl
@[simp] theorem State.setA_events (s : State) (v : Word) : (s.setA v).events = s.events := rfl
@[simp] theorem State.setA_refusedMark (s : State) (v : Word) : (s.setA v).refusedMark = s.refusedMark := rfl
@[simp] theorem State.setA_ended (s : State) (v : Word) : (s.setA v).ended = s.ended := rfl
@[simp] theorem State.setA_inputs (s : State) (v : Word) : (s.setA v).inputs = s.inputs := rfl
@[simp] theorem State.setA_freeCount (s : State) (v : Word) : (s.setA v).freeCount = s.freeCount := rfl

@[simp] theorem State.setR_a (s : State) (v : Word) : (s.setR v).a = s.a := rfl
@[simp] theorem State.setR_r (s : State) (v : Word) : (s.setR v).r = v := rfl
@[simp] theorem State.setR_b (s : State) (v : Word) : (s.setR v).b = s.b := rfl
@[simp] theorem State.setR_sf (s : State) (v : Word) : (s.setR v).sf = s.sf := rfl
@[simp] theorem State.setR_sa (s : State) (v : Word) : (s.setR v).sa = s.sa := rfl
@[simp] theorem State.setR_ovr (s : State) (v : Word) : (s.setR v).ovr = s.ovr := rfl
@[simp] theorem State.setR_fs (s : State) (v : Word) : (s.setR v).fs = s.fs := rfl
@[simp] theorem State.setR_ms (s : State) (v : Word) : (s.setR v).ms = s.ms := rfl
@[simp] theorem State.setR_fastSize (s : State) (v : Word) : (s.setR v).fastSize = s.fastSize := rfl
@[simp] theorem State.setR_mainSize (s : State) (v : Word) : (s.setR v).mainSize = s.mainSize := rfl
@[simp] theorem State.setR_events (s : State) (v : Word) : (s.setR v).events = s.events := rfl
@[simp] theorem State.setR_refusedMark (s : State) (v : Word) : (s.setR v).refusedMark = s.refusedMark := rfl
@[simp] theorem State.setR_ended (s : State) (v : Word) : (s.setR v).ended = s.ended := rfl
@[simp] theorem State.setR_inputs (s : State) (v : Word) : (s.setR v).inputs = s.inputs := rfl
@[simp] theorem State.setR_freeCount (s : State) (v : Word) : (s.setR v).freeCount = s.freeCount := rfl

@[simp] theorem State.setB_a (s : State) (x : IndexSpec) (v : Word) : (s.setB x v).a = s.a := rfl
@[simp] theorem State.setB_r (s : State) (x : IndexSpec) (v : Word) : (s.setB x v).r = s.r := rfl
@[simp] theorem State.setB_b (s : State) (x : IndexSpec) (v : Word) : (s.setB x v).b = s.b.set x v := rfl
@[simp] theorem State.setB_sf (s : State) (x : IndexSpec) (v : Word) : (s.setB x v).sf = s.sf := rfl
@[simp] theorem State.setB_sa (s : State) (x : IndexSpec) (v : Word) : (s.setB x v).sa = s.sa := rfl
@[simp] theorem State.setB_ovr (s : State) (x : IndexSpec) (v : Word) : (s.setB x v).ovr = s.ovr := rfl
@[simp] theorem State.setB_fs (s : State) (x : IndexSpec) (v : Word) : (s.setB x v).fs = s.fs := rfl
@[simp] theorem State.setB_ms (s : State) (x : IndexSpec) (v : Word) : (s.setB x v).ms = s.ms := rfl
@[simp] theorem State.setB_fastSize (s : State) (x : IndexSpec) (v : Word) : (s.setB x v).fastSize = s.fastSize := rfl
@[simp] theorem State.setB_mainSize (s : State) (x : IndexSpec) (v : Word) : (s.setB x v).mainSize = s.mainSize := rfl
@[simp] theorem State.setB_events (s : State) (x : IndexSpec) (v : Word) : (s.setB x v).events = s.events := rfl
@[simp] theorem State.setB_refusedMark (s : State) (x : IndexSpec) (v : Word) : (s.setB x v).refusedMark = s.refusedMark := rfl
@[simp] theorem State.setB_ended (s : State) (x : IndexSpec) (v : Word) : (s.setB x v).ended = s.ended := rfl
@[simp] theorem State.setB_inputs (s : State) (x : IndexSpec) (v : Word) : (s.setB x v).inputs = s.inputs := rfl
@[simp] theorem State.setB_freeCount (s : State) (x : IndexSpec) (v : Word) : (s.setB x v).freeCount = s.freeCount := rfl

@[simp] theorem State.putOvr_a (s : State) (v : Bool) : (s.putOvr v).a = s.a := rfl
@[simp] theorem State.putOvr_r (s : State) (v : Bool) : (s.putOvr v).r = s.r := rfl
@[simp] theorem State.putOvr_b (s : State) (v : Bool) : (s.putOvr v).b = s.b := rfl
@[simp] theorem State.putOvr_sf (s : State) (v : Bool) : (s.putOvr v).sf = s.sf := rfl
@[simp] theorem State.putOvr_sa (s : State) (v : Bool) : (s.putOvr v).sa = s.sa := rfl
@[simp] theorem State.putOvr_ovr (s : State) (v : Bool) : (s.putOvr v).ovr = v := rfl
@[simp] theorem State.putOvr_fs (s : State) (v : Bool) : (s.putOvr v).fs = s.fs := rfl
@[simp] theorem State.putOvr_ms (s : State) (v : Bool) : (s.putOvr v).ms = s.ms := rfl
@[simp] theorem State.putOvr_fastSize (s : State) (v : Bool) : (s.putOvr v).fastSize = s.fastSize := rfl
@[simp] theorem State.putOvr_mainSize (s : State) (v : Bool) : (s.putOvr v).mainSize = s.mainSize := rfl
@[simp] theorem State.putOvr_events (s : State) (v : Bool) : (s.putOvr v).events = s.events := rfl
@[simp] theorem State.putOvr_refusedMark (s : State) (v : Bool) : (s.putOvr v).refusedMark = s.refusedMark := rfl
@[simp] theorem State.putOvr_ended (s : State) (v : Bool) : (s.putOvr v).ended = s.ended := rfl
@[simp] theorem State.putOvr_inputs (s : State) (v : Bool) : (s.putOvr v).inputs = s.inputs := rfl
@[simp] theorem State.putOvr_freeCount (s : State) (v : Bool) : (s.putOvr v).freeCount = s.freeCount := rfl

@[simp] theorem State.markWhen_a (s : State) (o : Bool) : (s.markWhen o).a = s.a := rfl
@[simp] theorem State.markWhen_r (s : State) (o : Bool) : (s.markWhen o).r = s.r := rfl
@[simp] theorem State.markWhen_b (s : State) (o : Bool) : (s.markWhen o).b = s.b := rfl
@[simp] theorem State.markWhen_sf (s : State) (o : Bool) : (s.markWhen o).sf = s.sf := rfl
@[simp] theorem State.markWhen_sa (s : State) (o : Bool) : (s.markWhen o).sa = s.sa := rfl
@[simp] theorem State.markWhen_ovr (s : State) (o : Bool) : (s.markWhen o).ovr = (s.ovr || o) := rfl
@[simp] theorem State.markWhen_fs (s : State) (o : Bool) : (s.markWhen o).fs = s.fs := rfl
@[simp] theorem State.markWhen_ms (s : State) (o : Bool) : (s.markWhen o).ms = s.ms := rfl
@[simp] theorem State.markWhen_fastSize (s : State) (o : Bool) : (s.markWhen o).fastSize = s.fastSize := rfl
@[simp] theorem State.markWhen_mainSize (s : State) (o : Bool) : (s.markWhen o).mainSize = s.mainSize := rfl
@[simp] theorem State.markWhen_events (s : State) (o : Bool) : (s.markWhen o).events = s.events := rfl
@[simp] theorem State.markWhen_refusedMark (s : State) (o : Bool) : (s.markWhen o).refusedMark = s.refusedMark := rfl
@[simp] theorem State.markWhen_ended (s : State) (o : Bool) : (s.markWhen o).ended = s.ended := rfl
@[simp] theorem State.markWhen_inputs (s : State) (o : Bool) : (s.markWhen o).inputs = s.inputs := rfl
@[simp] theorem State.markWhen_freeCount (s : State) (o : Bool) : (s.markWhen o).freeCount = s.freeCount := rfl

@[simp] theorem State.setOvr_a (s : State) (z : Int) : (s.setOvr z).a = s.a := rfl
@[simp] theorem State.setOvr_r (s : State) (z : Int) : (s.setOvr z).r = s.r := rfl
@[simp] theorem State.setOvr_b (s : State) (z : Int) : (s.setOvr z).b = s.b := rfl
@[simp] theorem State.setOvr_sf (s : State) (z : Int) : (s.setOvr z).sf = s.sf := rfl
@[simp] theorem State.setOvr_sa (s : State) (z : Int) : (s.setOvr z).sa = s.sa := rfl
@[simp] theorem State.setOvr_ovr (s : State) (z : Int) : (s.setOvr z).ovr = (s.ovr || !inRange20 z) := rfl
@[simp] theorem State.setOvr_fs (s : State) (z : Int) : (s.setOvr z).fs = s.fs := rfl
@[simp] theorem State.setOvr_ms (s : State) (z : Int) : (s.setOvr z).ms = s.ms := rfl
@[simp] theorem State.setOvr_fastSize (s : State) (z : Int) : (s.setOvr z).fastSize = s.fastSize := rfl
@[simp] theorem State.setOvr_mainSize (s : State) (z : Int) : (s.setOvr z).mainSize = s.mainSize := rfl
@[simp] theorem State.setOvr_events (s : State) (z : Int) : (s.setOvr z).events = s.events := rfl
@[simp] theorem State.setOvr_refusedMark (s : State) (z : Int) : (s.setOvr z).refusedMark = s.refusedMark := rfl
@[simp] theorem State.setOvr_ended (s : State) (z : Int) : (s.setOvr z).ended = s.ended := rfl
@[simp] theorem State.setOvr_inputs (s : State) (z : Int) : (s.setOvr z).inputs = s.inputs := rfl
@[simp] theorem State.setOvr_freeCount (s : State) (z : Int) : (s.setOvr z).freeCount = s.freeCount := rfl

@[simp] theorem State.setS_a (s : State) (f : StoreName) (k : Address) : (s.setS f k).a = s.a := rfl
@[simp] theorem State.setS_r (s : State) (f : StoreName) (k : Address) : (s.setS f k).r = s.r := rfl
@[simp] theorem State.setS_b (s : State) (f : StoreName) (k : Address) : (s.setS f k).b = s.b := rfl
@[simp] theorem State.setS_sf (s : State) (f : StoreName) (k : Address) : (s.setS f k).sf = f := rfl
@[simp] theorem State.setS_sa (s : State) (f : StoreName) (k : Address) : (s.setS f k).sa = k := rfl
@[simp] theorem State.setS_ovr (s : State) (f : StoreName) (k : Address) : (s.setS f k).ovr = s.ovr := rfl
@[simp] theorem State.setS_fs (s : State) (f : StoreName) (k : Address) : (s.setS f k).fs = s.fs := rfl
@[simp] theorem State.setS_ms (s : State) (f : StoreName) (k : Address) : (s.setS f k).ms = s.ms := rfl
@[simp] theorem State.setS_fastSize (s : State) (f : StoreName) (k : Address) : (s.setS f k).fastSize = s.fastSize := rfl
@[simp] theorem State.setS_mainSize (s : State) (f : StoreName) (k : Address) : (s.setS f k).mainSize = s.mainSize := rfl
@[simp] theorem State.setS_events (s : State) (f : StoreName) (k : Address) : (s.setS f k).events = s.events := rfl
@[simp] theorem State.setS_refusedMark (s : State) (f : StoreName) (k : Address) : (s.setS f k).refusedMark = s.refusedMark := rfl
@[simp] theorem State.setS_ended (s : State) (f : StoreName) (k : Address) : (s.setS f k).ended = s.ended := rfl
@[simp] theorem State.setS_inputs (s : State) (f : StoreName) (k : Address) : (s.setS f k).inputs = s.inputs := rfl
@[simp] theorem State.setS_freeCount (s : State) (f : StoreName) (k : Address) : (s.setS f k).freeCount = s.freeCount := rfl

@[simp] theorem State.jump_a (s : State) (m : Bool) (nm : Word) : (s.jump m nm).a = s.a := rfl
@[simp] theorem State.jump_r (s : State) (m : Bool) (nm : Word) : (s.jump m nm).r = s.r := rfl
@[simp] theorem State.jump_b (s : State) (m : Bool) (nm : Word) : (s.jump m nm).b = s.b := rfl
@[simp] theorem State.jump_sf (s : State) (m : Bool) (nm : Word) : (s.jump m nm).sf = storeOfMode m := rfl
@[simp] theorem State.jump_sa (s : State) (m : Bool) (nm : Word) : (s.jump m nm).sa = addr nm := rfl
@[simp] theorem State.jump_ovr (s : State) (m : Bool) (nm : Word) : (s.jump m nm).ovr = s.ovr := rfl
@[simp] theorem State.jump_fs (s : State) (m : Bool) (nm : Word) : (s.jump m nm).fs = s.fs := rfl
@[simp] theorem State.jump_ms (s : State) (m : Bool) (nm : Word) : (s.jump m nm).ms = s.ms := rfl
@[simp] theorem State.jump_fastSize (s : State) (m : Bool) (nm : Word) : (s.jump m nm).fastSize = s.fastSize := rfl
@[simp] theorem State.jump_mainSize (s : State) (m : Bool) (nm : Word) : (s.jump m nm).mainSize = s.mainSize := rfl
@[simp] theorem State.jump_events (s : State) (m : Bool) (nm : Word) : (s.jump m nm).events = s.events := rfl
@[simp] theorem State.jump_refusedMark (s : State) (m : Bool) (nm : Word) : (s.jump m nm).refusedMark = s.refusedMark := rfl
@[simp] theorem State.jump_ended (s : State) (m : Bool) (nm : Word) : (s.jump m nm).ended = s.ended := rfl
@[simp] theorem State.jump_inputs (s : State) (m : Bool) (nm : Word) : (s.jump m nm).inputs = s.inputs := rfl
@[simp] theorem State.jump_freeCount (s : State) (m : Bool) (nm : Word) : (s.jump m nm).freeCount = s.freeCount := rfl

@[simp] theorem State.emit_a (s : State) (e : Event) : (s.emit e).a = s.a := rfl
@[simp] theorem State.emit_r (s : State) (e : Event) : (s.emit e).r = s.r := rfl
@[simp] theorem State.emit_b (s : State) (e : Event) : (s.emit e).b = s.b := rfl
@[simp] theorem State.emit_sf (s : State) (e : Event) : (s.emit e).sf = s.sf := rfl
@[simp] theorem State.emit_sa (s : State) (e : Event) : (s.emit e).sa = s.sa := rfl
@[simp] theorem State.emit_ovr (s : State) (e : Event) : (s.emit e).ovr = s.ovr := rfl
@[simp] theorem State.emit_fs (s : State) (e : Event) : (s.emit e).fs = s.fs := rfl
@[simp] theorem State.emit_ms (s : State) (e : Event) : (s.emit e).ms = s.ms := rfl
@[simp] theorem State.emit_fastSize (s : State) (e : Event) : (s.emit e).fastSize = s.fastSize := rfl
@[simp] theorem State.emit_mainSize (s : State) (e : Event) : (s.emit e).mainSize = s.mainSize := rfl
@[simp] theorem State.emit_events (s : State) (e : Event) : (s.emit e).events = s.events ++ [e] := rfl
@[simp] theorem State.emit_refusedMark (s : State) (e : Event) : (s.emit e).refusedMark = s.refusedMark := rfl
@[simp] theorem State.emit_ended (s : State) (e : Event) : (s.emit e).ended = s.ended := rfl
@[simp] theorem State.emit_inputs (s : State) (e : Event) : (s.emit e).inputs = s.inputs := rfl
@[simp] theorem State.emit_freeCount (s : State) (e : Event) : (s.emit e).freeCount = s.freeCount := rfl

@[simp] theorem State.programBreak_a (s : State) (f : StoreName) (k : Address) : (s.programBreak f k).a = s.a := rfl
@[simp] theorem State.programBreak_r (s : State) (f : StoreName) (k : Address) : (s.programBreak f k).r = s.r := rfl
@[simp] theorem State.programBreak_b (s : State) (f : StoreName) (k : Address) : (s.programBreak f k).b = s.b := rfl
@[simp] theorem State.programBreak_sf (s : State) (f : StoreName) (k : Address) : (s.programBreak f k).sf = f := rfl
@[simp] theorem State.programBreak_sa (s : State) (f : StoreName) (k : Address) : (s.programBreak f k).sa = k := rfl
@[simp] theorem State.programBreak_ovr (s : State) (f : StoreName) (k : Address) : (s.programBreak f k).ovr = s.ovr := rfl
@[simp] theorem State.programBreak_fs (s : State) (f : StoreName) (k : Address) : (s.programBreak f k).fs = s.fs := rfl
@[simp] theorem State.programBreak_ms (s : State) (f : StoreName) (k : Address) : (s.programBreak f k).ms = s.ms := rfl
@[simp] theorem State.programBreak_fastSize (s : State) (f : StoreName) (k : Address) : (s.programBreak f k).fastSize = s.fastSize := rfl
@[simp] theorem State.programBreak_mainSize (s : State) (f : StoreName) (k : Address) : (s.programBreak f k).mainSize = s.mainSize := rfl
@[simp] theorem State.programBreak_events (s : State) (f : StoreName) (k : Address) : (s.programBreak f k).events = s.events ++ [.programBreak f k] := rfl
@[simp] theorem State.programBreak_refusedMark (s : State) (f : StoreName) (k : Address) : (s.programBreak f k).refusedMark = s.refusedMark := rfl
@[simp] theorem State.programBreak_ended (s : State) (f : StoreName) (k : Address) : (s.programBreak f k).ended = true := rfl
@[simp] theorem State.programBreak_inputs (s : State) (f : StoreName) (k : Address) : (s.programBreak f k).inputs = s.inputs := rfl
@[simp] theorem State.programBreak_freeCount (s : State) (f : StoreName) (k : Address) : (s.programBreak f k).freeCount = s.freeCount := rfl

@[simp] theorem State.spendFree_a (s : State) (k : Nat) : (s.spendFree k).a = s.a := rfl
@[simp] theorem State.spendFree_r (s : State) (k : Nat) : (s.spendFree k).r = s.r := rfl
@[simp] theorem State.spendFree_b (s : State) (k : Nat) : (s.spendFree k).b = s.b := rfl
@[simp] theorem State.spendFree_sf (s : State) (k : Nat) : (s.spendFree k).sf = s.sf := rfl
@[simp] theorem State.spendFree_sa (s : State) (k : Nat) : (s.spendFree k).sa = s.sa := rfl
@[simp] theorem State.spendFree_ovr (s : State) (k : Nat) : (s.spendFree k).ovr = s.ovr := rfl
@[simp] theorem State.spendFree_fs (s : State) (k : Nat) : (s.spendFree k).fs = s.fs := rfl
@[simp] theorem State.spendFree_ms (s : State) (k : Nat) : (s.spendFree k).ms = s.ms := rfl
@[simp] theorem State.spendFree_fastSize (s : State) (k : Nat) : (s.spendFree k).fastSize = s.fastSize := rfl
@[simp] theorem State.spendFree_mainSize (s : State) (k : Nat) : (s.spendFree k).mainSize = s.mainSize := rfl
@[simp] theorem State.spendFree_events (s : State) (k : Nat) : (s.spendFree k).events = s.events := rfl
@[simp] theorem State.spendFree_refusedMark (s : State) (k : Nat) : (s.spendFree k).refusedMark = s.refusedMark := rfl
@[simp] theorem State.spendFree_ended (s : State) (k : Nat) : (s.spendFree k).ended = s.ended := rfl
@[simp] theorem State.spendFree_inputs (s : State) (k : Nat) : (s.spendFree k).inputs = s.inputs := rfl
@[simp] theorem State.spendFree_freeCount (s : State) (k : Nat) : (s.spendFree k).freeCount = s.freeCount + k := rfl

@[simp] theorem State.setAR_b (s : State) (z : Int) : (s.setAR z).b = s.b := rfl
@[simp] theorem State.setAR_sf (s : State) (z : Int) : (s.setAR z).sf = s.sf := rfl
@[simp] theorem State.setAR_sa (s : State) (z : Int) : (s.setAR z).sa = s.sa := rfl
@[simp] theorem State.setAR_ovr (s : State) (z : Int) : (s.setAR z).ovr = s.ovr := rfl
@[simp] theorem State.setAR_fs (s : State) (z : Int) : (s.setAR z).fs = s.fs := rfl
@[simp] theorem State.setAR_ms (s : State) (z : Int) : (s.setAR z).ms = s.ms := rfl
@[simp] theorem State.setAR_fastSize (s : State) (z : Int) : (s.setAR z).fastSize = s.fastSize := rfl
@[simp] theorem State.setAR_mainSize (s : State) (z : Int) : (s.setAR z).mainSize = s.mainSize := rfl
@[simp] theorem State.setAR_events (s : State) (z : Int) : (s.setAR z).events = s.events := rfl
@[simp] theorem State.setAR_refusedMark (s : State) (z : Int) : (s.setAR z).refusedMark = s.refusedMark := rfl
@[simp] theorem State.setAR_ended (s : State) (z : Int) : (s.setAR z).ended = s.ended := rfl
@[simp] theorem State.setAR_inputs (s : State) (z : Int) : (s.setAR z).inputs = s.inputs := rfl
@[simp] theorem State.setAR_freeCount (s : State) (z : Int) : (s.setAR z).freeCount = s.freeCount := rfl
@[simp] theorem State.setAR_a (s : State) (z : Int) :
    (s.setAR z).a = (BitVec.ofInt 39 z).extractLsb' 19 20 := rfl
@[simp] theorem State.setAR_r (s : State) (z : Int) :
    (s.setAR z).r = ((BitVec.ofInt 39 z).setWidth 19).setWidth 20 := rfl

@[simp] theorem State.poke_a (s : State) (l : Loc) (v : Word) : (s.poke l v).a = s.a := rfl
@[simp] theorem State.poke_r (s : State) (l : Loc) (v : Word) : (s.poke l v).r = s.r := rfl
@[simp] theorem State.poke_b (s : State) (l : Loc) (v : Word) : (s.poke l v).b = s.b := rfl
@[simp] theorem State.poke_sf (s : State) (l : Loc) (v : Word) : (s.poke l v).sf = s.sf := rfl
@[simp] theorem State.poke_sa (s : State) (l : Loc) (v : Word) : (s.poke l v).sa = s.sa := rfl
@[simp] theorem State.poke_ovr (s : State) (l : Loc) (v : Word) : (s.poke l v).ovr = s.ovr := rfl
@[simp] theorem State.poke_fastSize (s : State) (l : Loc) (v : Word) : (s.poke l v).fastSize = s.fastSize := rfl
@[simp] theorem State.poke_mainSize (s : State) (l : Loc) (v : Word) : (s.poke l v).mainSize = s.mainSize := rfl
@[simp] theorem State.poke_events (s : State) (l : Loc) (v : Word) : (s.poke l v).events = s.events := rfl
@[simp] theorem State.poke_refusedMark (s : State) (l : Loc) (v : Word) : (s.poke l v).refusedMark = s.refusedMark := rfl
@[simp] theorem State.poke_ended (s : State) (l : Loc) (v : Word) : (s.poke l v).ended = s.ended := rfl
@[simp] theorem State.poke_inputs (s : State) (l : Loc) (v : Word) : (s.poke l v).inputs = s.inputs := rfl
@[simp] theorem State.poke_freeCount (s : State) (l : Loc) (v : Word) : (s.poke l v).freeCount = s.freeCount := rfl
@[simp] theorem State.poke_fast_fs (s : State) (k : Nat) (v : Word) :
    (s.poke ⟨.fast, k⟩ v).fs = Memory.write s.fs k v := rfl
@[simp] theorem State.poke_fast_ms (s : State) (k : Nat) (v : Word) : (s.poke ⟨.fast, k⟩ v).ms = s.ms := rfl
@[simp] theorem State.poke_main_fs (s : State) (k : Nat) (v : Word) : (s.poke ⟨.main, k⟩ v).fs = s.fs := rfl
@[simp] theorem State.poke_main_ms (s : State) (k : Nat) (v : Word) :
    (s.poke ⟨.main, k⟩ v).ms = Memory.write s.ms k v := rfl

@[simp] theorem State.takeInput_a (s : State) : s.takeInput.a = s.a := rfl
@[simp] theorem State.takeInput_r (s : State) : s.takeInput.r = s.r := rfl
@[simp] theorem State.takeInput_b (s : State) : s.takeInput.b = s.b := rfl
@[simp] theorem State.takeInput_sf (s : State) : s.takeInput.sf = s.sf := rfl
@[simp] theorem State.takeInput_sa (s : State) : s.takeInput.sa = s.sa := rfl
@[simp] theorem State.takeInput_ovr (s : State) : s.takeInput.ovr = s.ovr := rfl
@[simp] theorem State.takeInput_fs (s : State) : s.takeInput.fs = s.fs := rfl
@[simp] theorem State.takeInput_ms (s : State) : s.takeInput.ms = s.ms := rfl
@[simp] theorem State.takeInput_fastSize (s : State) : s.takeInput.fastSize = s.fastSize := rfl
@[simp] theorem State.takeInput_mainSize (s : State) : s.takeInput.mainSize = s.mainSize := rfl
@[simp] theorem State.takeInput_events (s : State) : s.takeInput.events = s.events := rfl
@[simp] theorem State.takeInput_refusedMark (s : State) : s.takeInput.refusedMark = s.refusedMark := rfl
@[simp] theorem State.takeInput_ended (s : State) : s.takeInput.ended = s.ended := rfl
@[simp] theorem State.drawFrom_a (s : State) (dev : Device) : (s.drawFrom dev).a = s.a := rfl
@[simp] theorem State.drawFrom_r (s : State) (dev : Device) : (s.drawFrom dev).r = s.r := rfl
@[simp] theorem State.drawFrom_b (s : State) (dev : Device) : (s.drawFrom dev).b = s.b := rfl
@[simp] theorem State.drawFrom_sf (s : State) (dev : Device) : (s.drawFrom dev).sf = s.sf := rfl
@[simp] theorem State.drawFrom_sa (s : State) (dev : Device) : (s.drawFrom dev).sa = s.sa := rfl
@[simp] theorem State.drawFrom_ovr (s : State) (dev : Device) : (s.drawFrom dev).ovr = s.ovr := rfl
@[simp] theorem State.drawFrom_fs (s : State) (dev : Device) : (s.drawFrom dev).fs = s.fs := rfl
@[simp] theorem State.drawFrom_ms (s : State) (dev : Device) : (s.drawFrom dev).ms = s.ms := rfl
@[simp] theorem State.drawFrom_fastSize (s : State) (dev : Device) : (s.drawFrom dev).fastSize = s.fastSize := rfl
@[simp] theorem State.drawFrom_mainSize (s : State) (dev : Device) : (s.drawFrom dev).mainSize = s.mainSize := rfl
@[simp] theorem State.drawFrom_refusedMark (s : State) (dev : Device) : (s.drawFrom dev).refusedMark = s.refusedMark := rfl
@[simp] theorem State.drawFrom_ended (s : State) (dev : Device) : (s.drawFrom dev).ended = s.ended := rfl
@[simp] theorem State.drawFrom_events (s : State) (dev : Device) :
    (s.drawFrom dev).events = s.events ++ [.devIn dev s.nextInput] := rfl
@[simp] theorem State.command_a (s : State) (dev : Device) : (s.command dev).a = s.a := rfl
@[simp] theorem State.command_r (s : State) (dev : Device) : (s.command dev).r = s.r := rfl
@[simp] theorem State.command_b (s : State) (dev : Device) : (s.command dev).b = s.b := rfl
@[simp] theorem State.command_sf (s : State) (dev : Device) : (s.command dev).sf = s.sf := rfl
@[simp] theorem State.command_sa (s : State) (dev : Device) : (s.command dev).sa = s.sa := rfl
@[simp] theorem State.command_ovr (s : State) (dev : Device) : (s.command dev).ovr = s.ovr := rfl
@[simp] theorem State.command_fs (s : State) (dev : Device) : (s.command dev).fs = s.fs := rfl
@[simp] theorem State.command_ms (s : State) (dev : Device) : (s.command dev).ms = s.ms := rfl
@[simp] theorem State.command_fastSize (s : State) (dev : Device) : (s.command dev).fastSize = s.fastSize := rfl
@[simp] theorem State.command_mainSize (s : State) (dev : Device) : (s.command dev).mainSize = s.mainSize := rfl
@[simp] theorem State.command_events (s : State) (dev : Device) : (s.command dev).events = s.events ++ [.devCmd dev.e dev.d dev.p] := rfl
@[simp] theorem State.command_refusedMark (s : State) (dev : Device) : (s.command dev).refusedMark = s.refusedMark := rfl
@[simp] theorem State.command_ended (s : State) (dev : Device) : (s.command dev).ended = s.ended := rfl
@[simp] theorem State.command_inputs (s : State) (dev : Device) : (s.command dev).inputs = s.inputs := rfl
@[simp] theorem State.command_freeCount (s : State) (dev : Device) : (s.command dev).freeCount = s.freeCount := rfl

theorem State.takeInput_supplied (s : State) (t : Word) (rest : List Word) (h : s.inputs = t :: rest) :
    s.nextInput = t ∧ s.takeInput = { s with inputs := rest } := by
  simp [State.nextInput, State.takeInput, h]
theorem State.takeInput_drawn (s : State) (h : s.inputs = []) :
    s.nextInput = Config.deviceInput s.freeCount ∧
      s.takeInput = { s with freeCount := s.freeCount + 1 } := by
  simp [State.nextInput, State.takeInput, h]

end Sys2Proof.Machine
end

