-- ==== Sys2Proof/Laws/Memory.lean ====
section
/-! SUPPORT. Reading and writing the stores (20_memory.md R43): a read after a write, and the canonical form
every write keeps. -/

namespace Sys2Proof.Machine

theorem Memory.read_of_lt (mem : Memory) (k : Nat) (h : ∀ p ∈ mem, k < p.1) :
    Memory.read mem k = unlistedWord := by
  induction mem with
  | nil => rfl
  | cons p rest ih =>
    have hp : k < p.1 := h p (by simp)
    simp only [Memory.read]
    rw [if_neg (by omega)]
    exact ih fun q hq => h q (by simp [hq])

/-- A read of the location just written gives the value written. -/
theorem Memory.read_write_same (mem : Memory) (k : Nat) (v : Word)
    (h : mem.Pairwise (fun p q => p.1 < q.1)) : Memory.read (Memory.write mem k v) k = v := by
  induction mem with
  | nil =>
    unfold Memory.write
    split
    · rename_i hv; simp [Memory.read, hv]
    · simp [Memory.read]
  | cons p rest ih =>
    obtain ⟨j, w⟩ := p
    rw [List.pairwise_cons] at h
    unfold Memory.write
    split
    · rename_i hk
      split
      · rename_i hv
        rw [hv]
        refine Memory.read_of_lt _ _ fun q hq => ?_
        rcases List.mem_cons.1 hq with rfl | hq
        · exact hk
        · exact lt_trans hk (h.1 q hq)
      · simp [Memory.read]
    · split
      · rename_i hk
        split
        · rename_i hv
          rw [hv]
          refine Memory.read_of_lt _ _ fun q hq => ?_
          have := h.1 q hq
          omega
        · simp [Memory.read]
      · rename_i h1 h2
        simp only [Memory.read]
        rw [if_neg (by omega)]
        exact ih h.2

/-- A write leaves what every other location reads as. -/
theorem Memory.read_write_other (mem : Memory) (k j : Nat) (v : Word) (hj : j ≠ k) :
    Memory.read (Memory.write mem k v) j = Memory.read mem j := by
  induction mem with
  | nil =>
    unfold Memory.write
    split
    · rfl
    · simp [Memory.read, Ne.symm hj]
  | cons p rest ih =>
    obtain ⟨i, w⟩ := p
    unfold Memory.write
    split
    · split
      · rfl
      · simp [Memory.read, Ne.symm hj]
    · split
      · rename_i hk
        subst hk
        split <;> simp [Memory.read, Ne.symm hj]
      · simp only [Memory.read, ih]

/-- A write lists nothing but the location written and what was listed before. -/
theorem Memory.mem_write (mem : Memory) (k : Nat) (v : Word) (p : Nat × Word)
    (h : p ∈ Memory.write mem k v) : p ∈ mem ∨ p = (k, v) ∧ v ≠ unlistedWord := by
  induction mem with
  | nil =>
    unfold Memory.write at h
    split at h <;> simp_all
  | cons q rest ih =>
    obtain ⟨j, w⟩ := q
    unfold Memory.write at h
    split at h
    · split at h
      · exact .inl h
      · rcases List.mem_cons.1 h with rfl | h
        · simp_all
        · exact .inl h
    · split at h
      · split at h
        · exact .inl (List.mem_cons_of_mem _ h)
        · rcases List.mem_cons.1 h with rfl | h
          · simp_all
          · exact .inl (List.mem_cons_of_mem _ h)
      · rcases List.mem_cons.1 h with rfl | h
        · simp
        · rcases ih h with h | h
          · exact .inl (List.mem_cons_of_mem _ h)
          · exact .inr h

/-- A write keeps the canonical form. -/
theorem Memory.wf_write (mem : Memory) (k : Nat) (v : Word) (h : Memory.wf mem) :
    Memory.wf (Memory.write mem k v) := by
  refine ⟨?_, fun p hp => ?_⟩
  · obtain ⟨h, -⟩ := h
    induction mem with
    | nil => unfold Memory.write; split <;> simp
    | cons q rest ih =>
      obtain ⟨j, w⟩ := q
      rw [List.pairwise_cons] at h
      unfold Memory.write
      split
      · rename_i hk
        split
        · exact List.pairwise_cons.2 h
        · refine List.pairwise_cons.2 ⟨fun q hq => ?_, List.pairwise_cons.2 h⟩
          rcases List.mem_cons.1 hq with rfl | hq
          · exact hk
          · exact lt_trans hk (h.1 q hq)
      · split
        · rename_i hk
          subst hk
          split
          · exact h.2
          · exact List.pairwise_cons.2 h
        · rename_i h1 h2
          refine List.pairwise_cons.2 ⟨fun q hq => ?_, ih h.2⟩
          rcases Memory.mem_write rest k v q hq with hq | ⟨rfl, -⟩
          · exact h.1 q hq
          · show j < k
            omega
  · rcases Memory.mem_write mem k v p hp with hp | ⟨rfl, hv⟩
    · exact h.2 p hp
    · exact hv

/-- The empty store has the canonical form. -/
theorem Memory.wf_nil : Memory.wf [] := by decide

/-- The memories of the reset state have the canonical form. -/
theorem State.reset_memory_wf : Memory.wf State.reset.fs ∧ Memory.wf State.reset.ms :=
  ⟨Memory.wf_nil, Memory.wf_nil⟩

/-- A location written holds the word written, where its store lists rising locations. -/
theorem State.peek_poke_same (s : State) (l : Loc) (v : Word)
    (hf : Memory.wf s.fs) (hm : Memory.wf s.ms) : (s.poke l v).peek l = v := by
  obtain ⟨st, k⟩ := l
  cases st
  · exact Memory.read_write_same s.fs k v hf.1
  · exact Memory.read_write_same s.ms k v hm.1

/-- A write leaves every other location of both stores. -/
theorem State.peek_poke_other (s : State) (l l' : Loc) (v : Word) (h : l' ≠ l) :
    (s.poke l v).peek l' = s.peek l' := by
  obtain ⟨st, k⟩ := l
  obtain ⟨st', k'⟩ := l'
  cases st <;> cases st'
  · exact Memory.read_write_other s.fs k k' v fun e => h (by rw [e])
  · rfl
  · rfl
  · exact Memory.read_write_other s.ms k k' v fun e => h (by rw [e])

end Sys2Proof.Machine
end

