-- ==== Sys2Proof/Laws/Ops.lean ====
section
/-! SUPPORT. For each shared operation, one lemma that says once everything it can do: if it answers
`next t`, then what held and what `t` is. -/

namespace Sys2Proof.Machine

/-! ### Index registers -/

theorem IndexRegs.get_set_same (b : IndexRegs) (x : IndexSpec) (v : Word) (h : x ≠ 0) :
    (b.set x v).get x = v := by
  obtain ⟨⟨k, hk⟩⟩ := x
  match k, hk, h with
  | 1, _, _ | 2, _, _ | 3, _, _ | 4, _, _ | 5, _, _ | 6, _, _ | 7, _, _ => rfl

theorem IndexRegs.get_set_other (b : IndexRegs) (x y : IndexSpec) (v : Word) (h : y ≠ x) :
    (b.set x v).get y = b.get y := by
  obtain ⟨⟨k, hk⟩⟩ := x
  obtain ⟨⟨j, hj⟩⟩ := y
  have hne : j ≠ k := fun e => h (by subst e; rfl)
  interval_cases k <;> interval_cases j <;> first | rfl | exact absurd rfl hne

@[simp] theorem IndexRegs.get_zero (b : IndexRegs) : b.get 0 = 0 := rfl

/-! ### Store accesses -/

theorem hasLoc_iff (s : State) (l : Loc) : s.hasLoc l = true ↔ l.number < s.size l.store := by
  simp [State.hasLoc]

theorem loadWord_next {l : Loc} {s t : State} {next : Word → Result} (h : loadWord l s next = .next t) :
    s.hasLoc l = true ∧ next (s.peek l) = .next t := by
  unfold loadWord at h
  split at h
  · exact ⟨‹_›, h⟩
  · cases h

theorem storeWord_next {l : Loc} {v : Word} {s t : State} (h : storeWord l v s = .next t) :
    s.hasLoc l = true ∧ t = s.poke l v := by
  unfold storeWord at h
  split at h
  · exact ⟨‹_›, (Host.Outcome.next.inj h).symm⟩
  · cases h

theorem loadWord_of_hasLoc {l : Loc} {s : State} (next : Word → Result) (h : s.hasLoc l = true) :
    loadWord l s next = next (s.peek l) := if_pos h

theorem storeWord_of_hasLoc {l : Loc} {s : State} (v : Word) (h : s.hasLoc l = true) :
    storeWord l v s = .next (s.poke l v) := if_pos h

theorem loadWord_of_not_hasLoc {l : Loc} {s : State} (next : Word → Result) (h : s.hasLoc l = false) :
    loadWord l s next = .fault (.addressOutOfRange l) := if_neg (by simp [h])

theorem storeWord_of_not_hasLoc {l : Loc} {s : State} (v : Word) (h : s.hasLoc l = false) :
    storeWord l v s = .fault (.addressOutOfRange l) := if_neg (by simp [h])

/-! ### Sequencing -/

theorem advanceS_next {s t : State} {next : State → Result} (h : advanceS s next = .next t) :
    s.sa.toNat + 1 < 2 ^ 19 ∧ next (s.setS s.sf (s.sa + 1)) = .next t := by
  unfold advanceS at h
  split at h
  · exact ⟨‹_›, h⟩
  · cases h

theorem fetch_next {s t : State} {next : Word → State → Result} (h : fetch s next = .next t) :
    s.hasLoc s.here = true ∧ s.sa.toNat + 1 < 2 ^ 19 ∧
      next (s.peek s.here) (s.setS s.sf (s.sa + 1)) = .next t := by
  obtain ⟨h1, h2⟩ := loadWord_next h
  exact ⟨h1, advanceS_next h2⟩

theorem whenRunning_next {s t : State} {r : Result} (h : whenRunning s r = .next t) :
    s.refusedMark = none ∧ s.ended = false ∧ r = .next t := by
  unfold whenRunning at h
  split at h
  · cases h
  · cases h
  · rename_i hm
    split at h
    · cases h
    · rename_i he
      exact ⟨hm, by simpa using he, h⟩

theorem namingIndex_next {x : IndexSpec} {r : Result} {t : State} (h : namingIndex x r = .next t) :
    x ≠ 0 ∧ r = .next t := by
  unfold namingIndex at h
  split at h
  · cases h
  · exact ⟨‹_›, h⟩

theorem namingIndex_of_ne {x : IndexSpec} (r : Result) (h : x ≠ 0) : namingIndex x r = r := if_neg h

/-! ### Operand forms -/

theorem locate_next {form : Form} {nm : Word} {s t : State} {next : Loc → Result}
    (h : locate form nm s next = .next t) :
    holderExists form nm s = true ∧ next (location form nm s) = .next t := by
  unfold locate at h
  split at h
  · exact ⟨‹_›, h⟩
  · cases h

theorem withOperand_next {form : Form} {nm : Word} {s t : State} {next : Word → Result}
    (h : withOperand form nm s next = .next t) :
    holderExists form nm s = true ∧ s.hasLoc (location form nm s) = true ∧
      next (s.peek (location form nm s)) = .next t :=
  let ⟨h1, h2⟩ := locate_next h
  ⟨h1, loadWord_next h2⟩

theorem storeOperand_next {form : Form} {nm v : Word} {s t : State}
    (h : storeOperand form nm v s = .next t) :
    holderExists form nm s = true ∧ s.hasLoc (location form nm s) = true ∧
      t = s.poke (location form nm s) v :=
  let ⟨h1, h2⟩ := locate_next h
  ⟨h1, storeWord_next h2⟩

theorem updateOperand_next {form : Form} {nm : Word} {s t : State} {f : Word → Word}
    (h : updateOperand form nm s f = .next t) :
    holderExists form nm s = true ∧ s.hasLoc (location form nm s) = true ∧
      t = s.poke (location form nm s) (f (s.peek (location form nm s))) :=
  let ⟨h1, h2⟩ := locate_next h
  let ⟨h3, h4⟩ := loadWord_next h2
  ⟨h1, h3, (storeWord_next h4).2⟩

theorem sumToOperand_next {form : Form} {nm : Word} {s t : State} {f : Int → Int}
    (h : sumToOperand form nm s f = .next t) :
    holderExists form nm s = true ∧ s.hasLoc (location form nm s) = true ∧
      t = (s.setOvr (f (sv (s.peek (location form nm s))))).poke (location form nm s)
        (wrap20 (f (sv (s.peek (location form nm s))))) :=
  let ⟨h1, h2⟩ := locate_next h
  let ⟨h3, h4⟩ := loadWord_next h2
  ⟨h1, h3, (storeWord_next h4).2⟩

/-! ### Long arithmetic: a multiplication, a root or a division always completes -/

theorem squareRoot_next (v : Int) (s : State) : ∃ a k, squareRoot v s =
    .next ((((s.setOvr v).setR 0).setA a).spendFree k) := by
  unfold squareRoot
  split
  · exact ⟨_, 0, rfl⟩
  · exact ⟨_, 1, rfl⟩

theorem divideWithRemainder_next (v : Word) (s : State) : ∃ o r a k, divideWithRemainder v s =
    .next ((((s.putOvr o).setR r).setA a).spendFree k) := by
  unfold divideWithRemainder divideTruncating divisionOutOfScale
  split
  · exact ⟨true, _, _, 2, rfl⟩
  · split
    · exact ⟨s.ovr, _, _, 0, rfl⟩
    · exact ⟨true, _, _, 2, rfl⟩

theorem divideRounded_next (v : Word) (s : State) : ∃ o a k, divideRounded v s =
    .next ((((s.putOvr o).setR 0).setA a).spendFree k) := by
  unfold divideRounded divideNearest roundedOutOfScale
  split
  · exact ⟨true, _, 1, rfl⟩
  · split
    · exact ⟨s.ovr, _, 0, rfl⟩
    · exact ⟨true, _, 1, rfl⟩

/-- `wrap20` is reduction modulo 2^20 (00_scope.md R8). -/
theorem toNat_wrap20 (z : Int) : ((wrap20 z).toNat : Int) = z % 2 ^ 20 := by
  simp only [wrap20, BitVec.toNat_ofInt]
  omega

end Sys2Proof.Machine
end

