-- ==== Sys2Proof/Laws/PerInstr.lean ====
section
/-! SUPPORT. One lemma per constructor of `Instr`, for the families LAWS.json names.

`FieldsAgree`: building the instruction from its own fields gives it back (30_encoding.md R61, R70); the
table map loses no field of any row, the mode bit that some rows ignore included. -/

namespace Sys2Proof.Laws.FieldsAgree

/-- The table map of R70 read forwards and backwards agrees on `i`. -/
def Statement (i : Instr) : Prop := ofFields (toFields i) = i

theorem f00_0 (x : IndexSpec) (n : AddressBits) : Statement (.f00_0 x n) := rfl
theorem f00_1 (x : IndexSpec) (n : AddressBits) : Statement (.f00_1 x n) := rfl
theorem f01_0 (x : IndexSpec) (n : AddressBits) : Statement (.f01_0 x n) := rfl
theorem f01_1 (x : IndexSpec) (n : AddressBits) : Statement (.f01_1 x n) := rfl
theorem f02_0 (x : IndexSpec) (n : AddressBits) : Statement (.f02_0 x n) := rfl
theorem f02_1 (x : IndexSpec) (n : AddressBits) : Statement (.f02_1 x n) := rfl
theorem f03_0 (x : IndexSpec) (n : AddressBits) : Statement (.f03_0 x n) := rfl
theorem f03_1 (x : IndexSpec) (n : AddressBits) : Statement (.f03_1 x n) := rfl
theorem f04_0 (x : IndexSpec) (n : AddressBits) : Statement (.f04_0 x n) := rfl
theorem f04_1 (x : IndexSpec) (n : AddressBits) : Statement (.f04_1 x n) := rfl
theorem f05_0 (x : IndexSpec) (n : AddressBits) : Statement (.f05_0 x n) := rfl
theorem f05_1 (x : IndexSpec) (n : AddressBits) : Statement (.f05_1 x n) := rfl
theorem f06_0 (x : IndexSpec) (n : AddressBits) : Statement (.f06_0 x n) := rfl
theorem f06_1 (x : IndexSpec) (n : AddressBits) : Statement (.f06_1 x n) := rfl
theorem f07_0 (x : IndexSpec) (n : AddressBits) : Statement (.f07_0 x n) := rfl
theorem f07_1 (x : IndexSpec) (n : AddressBits) : Statement (.f07_1 x n) := rfl
theorem f10_0 (x : IndexSpec) (n : AddressBits) : Statement (.f10_0 x n) := rfl
theorem f10_1 (x : IndexSpec) (n : AddressBits) : Statement (.f10_1 x n) := rfl
theorem f11_0 (x : IndexSpec) (n : AddressBits) : Statement (.f11_0 x n) := rfl
theorem f11_1 (x : IndexSpec) (n : AddressBits) : Statement (.f11_1 x n) := rfl
theorem f12_0 (x : IndexSpec) (n : AddressBits) : Statement (.f12_0 x n) := rfl
theorem f12_1 (x : IndexSpec) (n : AddressBits) : Statement (.f12_1 x n) := rfl
theorem f13_0 (x : IndexSpec) (n : AddressBits) : Statement (.f13_0 x n) := rfl
theorem f13_1 (x : IndexSpec) (n : AddressBits) : Statement (.f13_1 x n) := rfl
theorem f14_0 (x : IndexSpec) (n : AddressBits) : Statement (.f14_0 x n) := rfl
theorem f14_1 (x : IndexSpec) (n : AddressBits) : Statement (.f14_1 x n) := rfl
theorem f15_0 (x : IndexSpec) (n : AddressBits) : Statement (.f15_0 x n) := rfl
theorem f15_1 (x : IndexSpec) (n : AddressBits) : Statement (.f15_1 x n) := rfl
theorem f16_0 (x : IndexSpec) (n : AddressBits) : Statement (.f16_0 x n) := rfl
theorem f16_1 (x : IndexSpec) (n : AddressBits) : Statement (.f16_1 x n) := rfl
theorem f17_0 (x : IndexSpec) (n : AddressBits) : Statement (.f17_0 x n) := rfl
theorem f17_1 (x : IndexSpec) (n : AddressBits) : Statement (.f17_1 x n) := rfl
theorem f20_0 (x : IndexSpec) (n : AddressBits) : Statement (.f20_0 x n) := rfl
theorem f20_1 (x : IndexSpec) (n : AddressBits) : Statement (.f20_1 x n) := rfl
theorem f21_0 (x : IndexSpec) (n : AddressBits) : Statement (.f21_0 x n) := rfl
theorem f21_1 (x : IndexSpec) (n : AddressBits) : Statement (.f21_1 x n) := rfl
theorem f22_0 (x : IndexSpec) (n : AddressBits) : Statement (.f22_0 x n) := rfl
theorem f22_1 (x : IndexSpec) (n : AddressBits) : Statement (.f22_1 x n) := rfl
theorem f23_0 (x : IndexSpec) (n : AddressBits) : Statement (.f23_0 x n) := rfl
theorem f23_1 (x : IndexSpec) (n : AddressBits) : Statement (.f23_1 x n) := rfl
theorem f24_0 (x : IndexSpec) (n : AddressBits) : Statement (.f24_0 x n) := rfl
theorem f24_1 (x : IndexSpec) (n : AddressBits) : Statement (.f24_1 x n) := rfl
theorem f25_0 (x : IndexSpec) (n : AddressBits) : Statement (.f25_0 x n) := rfl
theorem f25_1 (x : IndexSpec) (n : AddressBits) : Statement (.f25_1 x n) := rfl
theorem f26_0 (x : IndexSpec) (n : AddressBits) : Statement (.f26_0 x n) := rfl
theorem f26_1 (x : IndexSpec) (n : AddressBits) : Statement (.f26_1 x n) := rfl
theorem f27_0 (x : IndexSpec) (n : AddressBits) : Statement (.f27_0 x n) := rfl
theorem f27_1 (x : IndexSpec) (n : AddressBits) : Statement (.f27_1 x n) := rfl
theorem f30_0 (x : IndexSpec) (n : AddressBits) : Statement (.f30_0 x n) := rfl
theorem f30_1 (x : IndexSpec) (n : AddressBits) : Statement (.f30_1 x n) := rfl
theorem f31_0 (x : IndexSpec) (n : AddressBits) : Statement (.f31_0 x n) := rfl
theorem f31_1 (x : IndexSpec) (n : AddressBits) : Statement (.f31_1 x n) := rfl
theorem f32_0 (x : IndexSpec) (n : AddressBits) : Statement (.f32_0 x n) := rfl
theorem f32_1 (x : IndexSpec) (n : AddressBits) : Statement (.f32_1 x n) := rfl
theorem f33_0 (x : IndexSpec) (n : AddressBits) : Statement (.f33_0 x n) := rfl
theorem f33_1 (x : IndexSpec) (n : AddressBits) : Statement (.f33_1 x n) := rfl
theorem f34_0 (x : IndexSpec) (n : AddressBits) : Statement (.f34_0 x n) := rfl
theorem f34_1 (x : IndexSpec) (n : AddressBits) : Statement (.f34_1 x n) := rfl
theorem f35_0 (x : IndexSpec) (n : AddressBits) : Statement (.f35_0 x n) := rfl
theorem f35_1 (x : IndexSpec) (n : AddressBits) : Statement (.f35_1 x n) := rfl
theorem f36_0 (x : IndexSpec) (n : AddressBits) : Statement (.f36_0 x n) := rfl
theorem f36_1 (x : IndexSpec) (n : AddressBits) : Statement (.f36_1 x n) := rfl
theorem f37_0 (x : IndexSpec) (n : AddressBits) : Statement (.f37_0 x n) := rfl
theorem f37_1 (x : IndexSpec) (n : AddressBits) : Statement (.f37_1 x n) := rfl
theorem f40 (m : Bool) (x : IndexSpec) (n : AddressBits) : Statement (.f40 m x n) := rfl
theorem f41 (m : Bool) (x : IndexSpec) (n : AddressBits) : Statement (.f41 m x n) := rfl
theorem f42 (m : Bool) (x : IndexSpec) (n : AddressBits) : Statement (.f42 m x n) := rfl
theorem f43 (m : Bool) (x : IndexSpec) (n : AddressBits) : Statement (.f43 m x n) := rfl
theorem f44 (m : Bool) (x : IndexSpec) (n : AddressBits) : Statement (.f44 m x n) := rfl
theorem f45 (m : Bool) (x : IndexSpec) (n : AddressBits) : Statement (.f45 m x n) := rfl
theorem f46 (m : Bool) (x : IndexSpec) (n : AddressBits) : Statement (.f46 m x n) := rfl
theorem f47 (m : Bool) (x : IndexSpec) (n : AddressBits) : Statement (.f47 m x n) := rfl
theorem f50 (m : Bool) (x : IndexSpec) (n : AddressBits) : Statement (.f50 m x n) := rfl
theorem f51 (m : Bool) (x : IndexSpec) (n : AddressBits) : Statement (.f51 m x n) := rfl
theorem f52_0 (x : IndexSpec) (n : AddressBits) : Statement (.f52_0 x n) := rfl
theorem f52_1 (x : IndexSpec) (n : AddressBits) : Statement (.f52_1 x n) := rfl
theorem f53_0 (x : IndexSpec) (n : AddressBits) : Statement (.f53_0 x n) := rfl
theorem f53_1 (x : IndexSpec) (n : AddressBits) : Statement (.f53_1 x n) := rfl
theorem f54_0 (x : IndexSpec) (n : AddressBits) : Statement (.f54_0 x n) := rfl
theorem f54_1 (x : IndexSpec) (n : AddressBits) : Statement (.f54_1 x n) := rfl
theorem f55_0 (x : IndexSpec) (n : AddressBits) : Statement (.f55_0 x n) := rfl
theorem f55_1 (x : IndexSpec) (n : AddressBits) : Statement (.f55_1 x n) := rfl
theorem f56_0 (x : IndexSpec) (n : AddressBits) : Statement (.f56_0 x n) := rfl
theorem f56_1 (x : IndexSpec) (n : AddressBits) : Statement (.f56_1 x n) := rfl
theorem f57_0 (x : IndexSpec) (n : AddressBits) : Statement (.f57_0 x n) := rfl
theorem f57_1 (x : IndexSpec) (n : AddressBits) : Statement (.f57_1 x n) := rfl
theorem f60 (m : Bool) (x : IndexSpec) (n : AddressBits) : Statement (.f60 m x n) := rfl
theorem f61 (m : Bool) (x : IndexSpec) (n : AddressBits) : Statement (.f61 m x n) := rfl
theorem f62 (m : Bool) (x : IndexSpec) (n : AddressBits) : Statement (.f62 m x n) := rfl
theorem f63_0 (x : IndexSpec) (n : AddressBits) : Statement (.f63_0 x n) := rfl
theorem f63_1 (x : IndexSpec) (n : AddressBits) : Statement (.f63_1 x n) := rfl
theorem f64_0 (x : IndexSpec) (n : AddressBits) : Statement (.f64_0 x n) := rfl
theorem f64_1 (x : IndexSpec) (n : AddressBits) : Statement (.f64_1 x n) := rfl
theorem f65_0 (x : IndexSpec) (n : AddressBits) : Statement (.f65_0 x n) := rfl
theorem f65_1 (x : IndexSpec) (n : AddressBits) : Statement (.f65_1 x n) := rfl
theorem f66_0 (x : IndexSpec) (n : AddressBits) : Statement (.f66_0 x n) := rfl
theorem f66_1 (x : IndexSpec) (n : AddressBits) : Statement (.f66_1 x n) := rfl
theorem f67_0 (x : IndexSpec) (n : AddressBits) : Statement (.f67_0 x n) := rfl
theorem f67_1 (x : IndexSpec) (n : AddressBits) : Statement (.f67_1 x n) := rfl
theorem f70 (m : Bool) (x : IndexSpec) (n : AddressBits) : Statement (.f70 m x n) := rfl
theorem f71 (m : Bool) (x : IndexSpec) (n : AddressBits) : Statement (.f71 m x n) := rfl
theorem f72 (m : Bool) (x : IndexSpec) (n : AddressBits) : Statement (.f72 m x n) := rfl
theorem f73 (m : Bool) (x : IndexSpec) (n : AddressBits) : Statement (.f73 m x n) := rfl
theorem f74 (m : Bool) (x : IndexSpec) (n : AddressBits) : Statement (.f74 m x n) := rfl
theorem f75 (m : Bool) (x : IndexSpec) (n : AddressBits) : Statement (.f75 m x n) := rfl
theorem f76 (m : Bool) (x : IndexSpec) (n : AddressBits) : Statement (.f76 m x n) := rfl
theorem f77 (m : Bool) (x : IndexSpec) (n : AddressBits) : Statement (.f77 m x n) := rfl

end Sys2Proof.Laws.FieldsAgree
end

