-- ==== Sys2Proof/Tests/Slice0.lean ====
section
/-! SUPPORT. Tests: the checks of WellFormed, a word of every row of the opcode table, one step of every
instruction (expected values from 95_test_vectors.md), and for every statement with hypotheses a state and
operands that meet them. -/

open Sys2Proof Sys2Proof.Machine

namespace Sys2Proof.Tests

/-! ### WellFormed refuses an ill-formed term by each check -/

theorem test_unallocated_is_ill_formed :
    (Instr.f04_0 1 5).allocated = false ∧ (Instr.f04_0 1 5).wellFormed = false ∧
    (Instr.f71 true 0 0).wellFormed = false := by decide
theorem test_missing_index_register_is_ill_formed :
    (Instr.f00_0 0 5).namesIndexRegister = false ∧ (Instr.f00_0 0 5).wellFormed = false ∧
    (Instr.f43 true 0 5).wellFormed = false := by decide
theorem test_index_register_needed_only_where_named :
    (Instr.f00_0 1 5).wellFormed = true ∧ (Instr.f10_0 0 5).wellFormed = true ∧
    (Instr.f50 false 0 5).wellFormed = true := by decide

/-! ### Decoding: the words are written out field by field, F M X N in octal, binary and binary (R61) -/

theorem test_decode_group0 :
    decode 0b000000_0_001_0000000001#20 = .f00_0 1 1 ∧
    decode 0b000000_1_101_1000100111#20 = .f00_1 5 551 ∧
    decode 0b000001_0_111_0001001011#20 = .f01_0 7 75 ∧
    decode 0b000001_1_011_1001110001#20 = .f01_1 3 625 ∧
    decode 0b000010_0_101_0010010101#20 = .f02_0 5 149 ∧
    decode 0b000010_1_001_1010111011#20 = .f02_1 1 699 ∧
    decode 0b000011_0_011_0011011111#20 = .f03_0 3 223 ∧
    decode 0b000011_1_111_1100000101#20 = .f03_1 7 773 ∧
    decode 0b000100_0_001_0100101001#20 = .f04_0 1 297 ∧
    decode 0b000100_1_101_1101001111#20 = .f04_1 5 847 ∧
    decode 0b000101_0_111_0101110011#20 = .f05_0 7 371 ∧
    decode 0b000101_1_011_1110011001#20 = .f05_1 3 921 ∧
    decode 0b000110_0_101_0110111101#20 = .f06_0 5 445 ∧
    decode 0b000110_1_001_1111100011#20 = .f06_1 1 995 ∧
    decode 0b000111_0_011_1000000111#20 = .f07_0 3 519 ∧
    decode 0b000111_1_111_0000101101#20 = .f07_1 7 45 := by decide

theorem test_decode_group1 :
    decode 0b001000_0_001_0000000110#20 = .f10_0 1 6 ∧
    decode 0b001000_1_101_1000101100#20 = .f10_1 5 556 ∧
    decode 0b001001_0_111_0001010000#20 = .f11_0 7 80 ∧
    decode 0b001001_1_011_1001110110#20 = .f11_1 3 630 ∧
    decode 0b001010_0_101_0010011010#20 = .f12_0 5 154 ∧
    decode 0b001010_1_001_1011000000#20 = .f12_1 1 704 ∧
    decode 0b001011_0_011_0011100100#20 = .f13_0 3 228 ∧
    decode 0b001011_1_111_1100001010#20 = .f13_1 7 778 ∧
    decode 0b001100_0_001_0100101110#20 = .f14_0 1 302 ∧
    decode 0b001100_1_101_1101010100#20 = .f14_1 5 852 ∧
    decode 0b001101_0_111_0101111000#20 = .f15_0 7 376 ∧
    decode 0b001101_1_011_1110011110#20 = .f15_1 3 926 ∧
    decode 0b001110_0_101_0111000010#20 = .f16_0 5 450 ∧
    decode 0b001110_1_001_1111101000#20 = .f16_1 1 1000 ∧
    decode 0b001111_0_011_1000001100#20 = .f17_0 3 524 ∧
    decode 0b001111_1_111_0000110010#20 = .f17_1 7 50 := by decide

theorem test_decode_group2 :
    decode 0b010000_0_001_0000001011#20 = .f20_0 1 11 ∧
    decode 0b010000_1_101_1000110001#20 = .f20_1 5 561 ∧
    decode 0b010001_0_111_0001010101#20 = .f21_0 7 85 ∧
    decode 0b010001_1_011_1001111011#20 = .f21_1 3 635 ∧
    decode 0b010010_0_101_0010011111#20 = .f22_0 5 159 ∧
    decode 0b010010_1_001_1011000101#20 = .f22_1 1 709 ∧
    decode 0b010011_0_011_0011101001#20 = .f23_0 3 233 ∧
    decode 0b010011_1_111_1100001111#20 = .f23_1 7 783 ∧
    decode 0b010100_0_001_0100110011#20 = .f24_0 1 307 ∧
    decode 0b010100_1_101_1101011001#20 = .f24_1 5 857 ∧
    decode 0b010101_0_111_0101111101#20 = .f25_0 7 381 ∧
    decode 0b010101_1_011_1110100011#20 = .f25_1 3 931 ∧
    decode 0b010110_0_101_0111000111#20 = .f26_0 5 455 ∧
    decode 0b010110_1_001_1111101101#20 = .f26_1 1 1005 ∧
    decode 0b010111_0_011_1000010001#20 = .f27_0 3 529 ∧
    decode 0b010111_1_111_0000110111#20 = .f27_1 7 55 := by decide

theorem test_decode_group3 :
    decode 0b011000_0_001_0000010000#20 = .f30_0 1 16 ∧
    decode 0b011000_1_101_1000110110#20 = .f30_1 5 566 ∧
    decode 0b011001_0_111_0001011010#20 = .f31_0 7 90 ∧
    decode 0b011001_1_011_1010000000#20 = .f31_1 3 640 ∧
    decode 0b011010_0_101_0010100100#20 = .f32_0 5 164 ∧
    decode 0b011010_1_001_1011001010#20 = .f32_1 1 714 ∧
    decode 0b011011_0_011_0011101110#20 = .f33_0 3 238 ∧
    decode 0b011011_1_111_1100010100#20 = .f33_1 7 788 ∧
    decode 0b011100_0_001_0100111000#20 = .f34_0 1 312 ∧
    decode 0b011100_1_101_1101011110#20 = .f34_1 5 862 ∧
    decode 0b011101_0_111_0110000010#20 = .f35_0 7 386 ∧
    decode 0b011101_1_011_1110101000#20 = .f35_1 3 936 ∧
    decode 0b011110_0_101_0111001100#20 = .f36_0 5 460 ∧
    decode 0b011110_1_001_1111110010#20 = .f36_1 1 1010 ∧
    decode 0b011111_0_011_1000010110#20 = .f37_0 3 534 ∧
    decode 0b011111_1_111_0000111100#20 = .f37_1 7 60 := by decide

theorem test_decode_group4 :
    decode 0b100000_0_001_0000010101#20 = .f40 false 1 21 ∧
    decode 0b100000_1_010_1000010110#20 = .f40 true 2 534 ∧
    decode 0b100001_0_100_0000111010#20 = .f41 false 4 58 ∧
    decode 0b100001_1_101_1000111011#20 = .f41 true 5 571 ∧
    decode 0b100010_0_111_0001011111#20 = .f42 false 7 95 ∧
    decode 0b100010_1_000_1001100000#20 = .f42 true 0 608 ∧
    decode 0b100011_0_010_0010000100#20 = .f43 false 2 132 ∧
    decode 0b100011_1_011_1010000101#20 = .f43 true 3 645 ∧
    decode 0b100100_0_101_0010101001#20 = .f44 false 5 169 ∧
    decode 0b100100_1_110_1010101010#20 = .f44 true 6 682 ∧
    decode 0b100101_0_000_0011001110#20 = .f45 false 0 206 ∧
    decode 0b100101_1_001_1011001111#20 = .f45 true 1 719 ∧
    decode 0b100110_0_011_0011110011#20 = .f46 false 3 243 ∧
    decode 0b100110_1_100_1011110100#20 = .f46 true 4 756 ∧
    decode 0b100111_0_110_0100011000#20 = .f47 false 6 280 ∧
    decode 0b100111_1_111_1100011001#20 = .f47 true 7 793 := by decide

theorem test_decode_group5 :
    decode 0b101000_0_001_0000011010#20 = .f50 false 1 26 ∧
    decode 0b101000_1_010_1000011011#20 = .f50 true 2 539 ∧
    decode 0b101001_0_100_0000111111#20 = .f51 false 4 63 ∧
    decode 0b101001_1_101_1001000000#20 = .f51 true 5 576 ∧
    decode 0b101010_0_111_0001100100#20 = .f52_0 7 100 ∧
    decode 0b101010_1_011_1010001010#20 = .f52_1 3 650 ∧
    decode 0b101011_0_101_0010101110#20 = .f53_0 5 174 ∧
    decode 0b101011_1_001_1011010100#20 = .f53_1 1 724 ∧
    decode 0b101100_0_011_0011111000#20 = .f54_0 3 248 ∧
    decode 0b101100_1_111_1100011110#20 = .f54_1 7 798 ∧
    decode 0b101101_0_001_0101000010#20 = .f55_0 1 322 ∧
    decode 0b101101_1_101_1101101000#20 = .f55_1 5 872 ∧
    decode 0b101110_0_111_0110001100#20 = .f56_0 7 396 ∧
    decode 0b101110_1_011_1110110010#20 = .f56_1 3 946 ∧
    decode 0b101111_0_101_0111010110#20 = .f57_0 5 470 ∧
    decode 0b101111_1_001_1111111100#20 = .f57_1 1 1020 := by decide

theorem test_decode_group6 :
    decode 0b110000_0_001_0000011111#20 = .f60 false 1 31 ∧
    decode 0b110000_1_010_1000100000#20 = .f60 true 2 544 ∧
    decode 0b110001_0_100_0001000100#20 = .f61 false 4 68 ∧
    decode 0b110001_1_101_1001000101#20 = .f61 true 5 581 ∧
    decode 0b110010_0_111_0001101001#20 = .f62 false 7 105 ∧
    decode 0b110010_1_000_1001101010#20 = .f62 true 0 618 ∧
    decode 0b110011_0_010_0010001110#20 = .f63_0 2 142 ∧
    decode 0b110011_1_110_1010110100#20 = .f63_1 6 692 ∧
    decode 0b110100_0_000_0011011000#20 = .f64_0 0 216 ∧
    decode 0b110100_1_100_1011111110#20 = .f64_1 4 766 ∧
    decode 0b110101_0_110_0100100010#20 = .f65_0 6 290 ∧
    decode 0b110101_1_010_1101001000#20 = .f65_1 2 840 ∧
    decode 0b110110_0_100_0101101100#20 = .f66_0 4 364 ∧
    decode 0b110110_1_000_1110010010#20 = .f66_1 0 914 ∧
    decode 0b110111_0_010_0110110110#20 = .f67_0 2 438 ∧
    decode 0b110111_1_110_1111011100#20 = .f67_1 6 988 := by decide

theorem test_decode_group7 :
    decode 0b111000_0_001_0000100100#20 = .f70 false 1 36 ∧
    decode 0b111000_1_010_1000100101#20 = .f70 true 2 549 ∧
    decode 0b111001_0_100_0001001001#20 = .f71 false 4 73 ∧
    decode 0b111001_1_101_1001001010#20 = .f71 true 5 586 ∧
    decode 0b111010_0_111_0001101110#20 = .f72 false 7 110 ∧
    decode 0b111010_1_000_1001101111#20 = .f72 true 0 623 ∧
    decode 0b111011_0_010_0010010011#20 = .f73 false 2 147 ∧
    decode 0b111011_1_011_1010010100#20 = .f73 true 3 660 ∧
    decode 0b111100_0_101_0010111000#20 = .f74 false 5 184 ∧
    decode 0b111100_1_110_1010111001#20 = .f74 true 6 697 ∧
    decode 0b111101_0_000_0011011101#20 = .f75 false 0 221 ∧
    decode 0b111101_1_001_1011011110#20 = .f75 true 1 734 ∧
    decode 0b111110_0_011_0100000010#20 = .f76 false 3 258 ∧
    decode 0b111110_1_100_1100000011#20 = .f76 true 4 771 ∧
    decode 0b111111_0_110_0100100111#20 = .f77 false 6 295 ∧
    decode 0b111111_1_111_1100101000#20 = .f77 true 7 808 := by decide

/-- Words 30_encoding.md R75 and 95_test_vectors.md write out. -/
theorem test_decode_spec_words :
    decode 0x2E864#20 = .f13_1 2 100 ∧ decode 0xE0002#20 = .f70 false 0 2 ∧
    decode 0xC03FC#20 = .f60 false 0 1020 ∧ decode 0xFA064#20 = .f76 true 0 100 := by decide

theorem test_decodeTableWord :
    decodeTableWord 24 0x2E864 = some (.f13_1 2 100) ∧ decodeTableWord 20 0xFC002 = some (.f77 false 0 2) := by
  decide

/-! ### One step of every instruction (95_test_vectors.md, section 2) -/

/-- The word run as the next instruction, and a check of the state it leaves. -/
def after (w : Nat) (s : State) (p : State → Bool) : Bool :=
  match step (s.withFetchWord 20 w) with
  | .next t => p t
  | _ => false

/-- The word run as the next instruction stops with this fault. -/
def faults (w : Nat) (s : State) (f : Fault) : Bool :=
  match step (s.withFetchWord 20 w) with
  | .fault g => g == f
  | _ => false

/-- The word run as the next instruction stops with this refusal. -/
def refuses (w : Nat) (s : State) (r : Refusal) : Bool :=
  match step (s.withFetchWord 20 w) with
  | .refused q => q == r
  | _ => false

theorem test_f00_0 : (after 0x00801 { State.reset with b := ⟨0x0, 0x80000, 0x0, 0x0, 0x0, 0x0, 0x0⟩, sa := 10 }
    fun t => decide (t.b.b2 = 0x80001) && decide (t.ovr = false)) = true := by decide
theorem test_f00_1 : (after 0x02864 { State.reset with b := ⟨0x0, 0x7FFFF, 0x0, 0x0, 0x0, 0x0, 0x0⟩, ms := [(100, 0x7FFFF)], sa := 10 }
    fun t => decide (t.b.b2 = 0xFFFFE) && decide (t.ovr = true)) = true := by decide
theorem test_f01_0 : (after 0x04801 { State.reset with b := ⟨0x0, 0x80000, 0x0, 0x0, 0x0, 0x0, 0x0⟩, sa := 10 }
    fun t => decide (t.b.b2 = 0x7FFFF) && decide (t.ovr = true)) = true := by decide
theorem test_f01_1 : (after 0x06864 { State.reset with b := ⟨0x0, 0x80000, 0x0, 0x0, 0x0, 0x0, 0x0⟩, ms := [(100, 0x1)], sa := 10 }
    fun t => decide (t.b.b2 = 0x7FFFF) && decide (t.ovr = true)) = true := by decide
theorem test_f02_0 : (after 0x08801 { State.reset with b := ⟨0x0, 0x80000, 0x0, 0x0, 0x0, 0x0, 0x0⟩, sa := 10 }
    fun t => decide (t.b.b2 = 0x80001) && decide (t.ovr = true)) = true := by decide
theorem test_f02_1 : (after 0x0A864 { State.reset with b := ⟨0x0, 0x80000, 0x0, 0x0, 0x0, 0x0, 0x0⟩, ms := [(100, 0x1)], sa := 10 }
    fun t => decide (t.b.b2 = 0x80001) && decide (t.ovr = true)) = true := by decide
theorem test_f03_0 : (after 0x0C801 { State.reset with b := ⟨0x0, 0x80000, 0x0, 0x0, 0x0, 0x0, 0x0⟩, sa := 10 }
    fun t => decide (t.b.b2 = 0x1) && decide (t.ovr = false)) = true := by decide
theorem test_f03_1 : (after 0x0E864 { State.reset with b := ⟨0x0, 0x80000, 0x0, 0x0, 0x0, 0x0, 0x0⟩, ms := [(100, 0x1)], sa := 10 }
    fun t => decide (t.b.b2 = 0x1) && decide (t.ovr = false)) = true := by decide
theorem test_f04_1 : (after 0x12864 { State.reset with b := ⟨0x0, 0x7FFFF, 0x0, 0x0, 0x0, 0x0, 0x0⟩, ms := [(100, 0x7FFFF)], sa := 10 }
    fun t => decide (t.peek ⟨.main, 100⟩ = 0xFFFFE) && decide (t.ovr = true)) = true := by decide
theorem test_f05_1 : (after 0x16864 { State.reset with b := ⟨0x0, 0x80000, 0x0, 0x0, 0x0, 0x0, 0x0⟩, ms := [(100, 0x1)], sa := 10 }
    fun t => decide (t.peek ⟨.main, 100⟩ = 0x7FFFF) && decide (t.ovr = true)) = true := by decide
theorem test_f06_1 : (after 0x1A864 { State.reset with b := ⟨0x0, 0x80000, 0x0, 0x0, 0x0, 0x0, 0x0⟩, ms := [(100, 0x1)], sa := 10 }
    fun t => decide (t.peek ⟨.main, 100⟩ = 0x80001) && decide (t.ovr = true)) = true := by decide
theorem test_f07_1 : (after 0x1E864 { State.reset with b := ⟨0x0, 0x80000, 0x0, 0x0, 0x0, 0x0, 0x0⟩, ms := [(100, 0x1)], sa := 10 }
    fun t => decide (t.peek ⟨.main, 100⟩ = 0x80000) && decide (t.ovr = false)) = true := by decide
theorem test_f10_0 : (after 0x20001 { State.reset with a := 0x80000, sa := 10 }
    fun t => decide (t.a = 0x80001) && decide (t.ovr = false)) = true := by decide
theorem test_f10_1 : (after 0x22064 { State.reset with a := 0x7FFFF, ms := [(100, 0x7FFFF)], sa := 10 }
    fun t => decide (t.a = 0xFFFFE) && decide (t.ovr = true)) = true := by decide
theorem test_f11_0 : (after 0x24001 { State.reset with a := 0x80000, sa := 10 }
    fun t => decide (t.a = 0x7FFFF) && decide (t.ovr = true)) = true := by decide
theorem test_f11_1 : (after 0x26064 { State.reset with a := 0x80000, ms := [(100, 0x1)], sa := 10 }
    fun t => decide (t.a = 0x7FFFF) && decide (t.ovr = true)) = true := by decide
theorem test_f12_0 : (after 0x28001 { State.reset with a := 0x80000, sa := 10 }
    fun t => decide (t.a = 0x80001) && decide (t.ovr = true)) = true := by decide
theorem test_f12_1 : (after 0x2A064 { State.reset with a := 0x80000, ms := [(100, 0x1)], sa := 10 }
    fun t => decide (t.a = 0x80001) && decide (t.ovr = true)) = true := by decide
theorem test_f13_0 : (after 0x2C001 { State.reset with a := 0x80000, sa := 10 }
    fun t => decide (t.a = 0x1) && decide (t.ovr = false)) = true := by decide
theorem test_f13_1 : (after 0x2E064 { State.reset with a := 0x80000, ms := [(100, 0x1)], sa := 10 }
    fun t => decide (t.a = 0x1) && decide (t.ovr = false)) = true := by decide
theorem test_f14_1 : (after 0x32064 { State.reset with a := 0x7FFFF, ms := [(100, 0x7FFFF)], sa := 10 }
    fun t => decide (t.peek ⟨.main, 100⟩ = 0xFFFFE) && decide (t.ovr = true)) = true := by decide
theorem test_f15_1 : (after 0x36064 { State.reset with a := 0x80000, ms := [(100, 0x1)], sa := 10 }
    fun t => decide (t.peek ⟨.main, 100⟩ = 0x7FFFF) && decide (t.ovr = true)) = true := by decide
theorem test_f16_1 : (after 0x3A064 { State.reset with a := 0x80000, ms := [(100, 0x1)], sa := 10 }
    fun t => decide (t.peek ⟨.main, 100⟩ = 0x80001) && decide (t.ovr = true)) = true := by decide
theorem test_f17_1 : (after 0x3E064 { State.reset with a := 0x80000, ms := [(100, 0x1)], sa := 10 }
    fun t => decide (t.peek ⟨.main, 100⟩ = 0x80000) && decide (t.ovr = false)) = true := by decide
theorem test_f20_0 : (after 0x40864 { State.reset with b := ⟨0x0, 0x7FFFF, 0x0, 0x0, 0x0, 0x0, 0x0⟩, fs := [(100, 0x7FFFF)], sa := 10 }
    fun t => decide (t.b.b2 = 0xFFFFE) && decide (t.ovr = true)) = true := by decide
theorem test_f20_1 : (after 0x42864 { State.reset with b := ⟨0x0, 0x7FFFF, 0x0, 0x0, 0x0, 0x0, 0x0⟩, fs := [(100, 0x200)], ms := [(512, 0x7FFFF)], sa := 10 }
    fun t => decide (t.b.b2 = 0xFFFFE) && decide (t.ovr = true)) = true := by decide
theorem test_f21_0 : (after 0x44864 { State.reset with b := ⟨0x0, 0x80000, 0x0, 0x0, 0x0, 0x0, 0x0⟩, fs := [(100, 0x1)], sa := 10 }
    fun t => decide (t.b.b2 = 0x7FFFF) && decide (t.ovr = true)) = true := by decide
theorem test_f21_1 : (after 0x46864 { State.reset with b := ⟨0x0, 0x80000, 0x0, 0x0, 0x0, 0x0, 0x0⟩, fs := [(100, 0x200)], ms := [(512, 0x1)], sa := 10 }
    fun t => decide (t.b.b2 = 0x7FFFF) && decide (t.ovr = true)) = true := by decide
theorem test_f22_0 : (after 0x48864 { State.reset with b := ⟨0x0, 0x80000, 0x0, 0x0, 0x0, 0x0, 0x0⟩, fs := [(100, 0x1)], sa := 10 }
    fun t => decide (t.b.b2 = 0x80001) && decide (t.ovr = true)) = true := by decide
theorem test_f22_1 : (after 0x4A864 { State.reset with b := ⟨0x0, 0x80000, 0x0, 0x0, 0x0, 0x0, 0x0⟩, fs := [(100, 0x200)], ms := [(512, 0x1)], sa := 10 }
    fun t => decide (t.b.b2 = 0x80001) && decide (t.ovr = true)) = true := by decide
theorem test_f23_0 : (after 0x4C864 { State.reset with b := ⟨0x0, 0x80000, 0x0, 0x0, 0x0, 0x0, 0x0⟩, fs := [(100, 0x1)], sa := 10 }
    fun t => decide (t.b.b2 = 0x1) && decide (t.ovr = false)) = true := by decide
theorem test_f23_1 : (after 0x4E864 { State.reset with b := ⟨0x0, 0x80000, 0x0, 0x0, 0x0, 0x0, 0x0⟩, fs := [(100, 0x200)], ms := [(512, 0x1)], sa := 10 }
    fun t => decide (t.b.b2 = 0x1) && decide (t.ovr = false)) = true := by decide
theorem test_f24_0 : (after 0x50864 { State.reset with b := ⟨0x0, 0x7FFFF, 0x0, 0x0, 0x0, 0x0, 0x0⟩, fs := [(100, 0x7FFFF)], sa := 10 }
    fun t => decide (t.peek ⟨.fast, 100⟩ = 0xFFFFE) && decide (t.ovr = true)) = true := by decide
theorem test_f24_1 : (after 0x52864 { State.reset with b := ⟨0x0, 0x7FFFF, 0x0, 0x0, 0x0, 0x0, 0x0⟩, fs := [(100, 0x200)], ms := [(512, 0x7FFFF)], sa := 10 }
    fun t => decide (t.peek ⟨.main, 512⟩ = 0xFFFFE) && decide (t.ovr = true)) = true := by decide
theorem test_f25_0 : (after 0x54864 { State.reset with b := ⟨0x0, 0x80000, 0x0, 0x0, 0x0, 0x0, 0x0⟩, fs := [(100, 0x1)], sa := 10 }
    fun t => decide (t.peek ⟨.fast, 100⟩ = 0x7FFFF) && decide (t.ovr = true)) = true := by decide
theorem test_f25_1 : (after 0x56864 { State.reset with b := ⟨0x0, 0x80000, 0x0, 0x0, 0x0, 0x0, 0x0⟩, fs := [(100, 0x200)], ms := [(512, 0x1)], sa := 10 }
    fun t => decide (t.peek ⟨.main, 512⟩ = 0x7FFFF) && decide (t.ovr = true)) = true := by decide
theorem test_f26_0 : (after 0x58864 { State.reset with b := ⟨0x0, 0x80000, 0x0, 0x0, 0x0, 0x0, 0x0⟩, fs := [(100, 0x1)], sa := 10 }
    fun t => decide (t.peek ⟨.fast, 100⟩ = 0x80001) && decide (t.ovr = true)) = true := by decide
theorem test_f26_1 : (after 0x5A864 { State.reset with b := ⟨0x0, 0x80000, 0x0, 0x0, 0x0, 0x0, 0x0⟩, fs := [(100, 0x200)], ms := [(512, 0x1)], sa := 10 }
    fun t => decide (t.peek ⟨.main, 512⟩ = 0x80001) && decide (t.ovr = true)) = true := by decide
theorem test_f27_0 : (after 0x5C864 { State.reset with b := ⟨0x0, 0x80000, 0x0, 0x0, 0x0, 0x0, 0x0⟩, fs := [(100, 0x1)], sa := 10 }
    fun t => decide (t.peek ⟨.fast, 100⟩ = 0x80000) && decide (t.ovr = false)) = true := by decide
theorem test_f27_1 : (after 0x5E864 { State.reset with b := ⟨0x0, 0x80000, 0x0, 0x0, 0x0, 0x0, 0x0⟩, fs := [(100, 0x200)], ms := [(512, 0x1)], sa := 10 }
    fun t => decide (t.peek ⟨.main, 512⟩ = 0x80000) && decide (t.ovr = false)) = true := by decide
theorem test_f30_0 : (after 0x60064 { State.reset with a := 0x7FFFF, fs := [(100, 0x7FFFF)], sa := 10 }
    fun t => decide (t.a = 0xFFFFE) && decide (t.ovr = true)) = true := by decide
theorem test_f30_1 : (after 0x62064 { State.reset with a := 0x7FFFF, fs := [(100, 0x200)], ms := [(512, 0x7FFFF)], sa := 10 }
    fun t => decide (t.a = 0xFFFFE) && decide (t.ovr = true)) = true := by decide
theorem test_f31_0 : (after 0x64064 { State.reset with a := 0x80000, fs := [(100, 0x1)], sa := 10 }
    fun t => decide (t.a = 0x7FFFF) && decide (t.ovr = true)) = true := by decide
theorem test_f31_1 : (after 0x66064 { State.reset with a := 0x80000, fs := [(100, 0x200)], ms := [(512, 0x1)], sa := 10 }
    fun t => decide (t.a = 0x7FFFF) && decide (t.ovr = true)) = true := by decide
theorem test_f32_0 : (after 0x68064 { State.reset with a := 0x80000, fs := [(100, 0x1)], sa := 10 }
    fun t => decide (t.a = 0x80001) && decide (t.ovr = true)) = true := by decide
theorem test_f32_1 : (after 0x6A064 { State.reset with a := 0x80000, fs := [(100, 0x200)], ms := [(512, 0x1)], sa := 10 }
    fun t => decide (t.a = 0x80001) && decide (t.ovr = true)) = true := by decide
theorem test_f33_0 : (after 0x6C064 { State.reset with a := 0x80000, fs := [(100, 0x1)], sa := 10 }
    fun t => decide (t.a = 0x1) && decide (t.ovr = false)) = true := by decide
theorem test_f33_1 : (after 0x6E064 { State.reset with a := 0x80000, fs := [(100, 0x200)], ms := [(512, 0x1)], sa := 10 }
    fun t => decide (t.a = 0x1) && decide (t.ovr = false)) = true := by decide
theorem test_f34_0 : (after 0x70064 { State.reset with a := 0x7FFFF, fs := [(100, 0x7FFFF)], sa := 10 }
    fun t => decide (t.peek ⟨.fast, 100⟩ = 0xFFFFE) && decide (t.ovr = true)) = true := by decide
theorem test_f34_1 : (after 0x72064 { State.reset with a := 0x7FFFF, fs := [(100, 0x200)], ms := [(512, 0x7FFFF)], sa := 10 }
    fun t => decide (t.peek ⟨.main, 512⟩ = 0xFFFFE) && decide (t.ovr = true)) = true := by decide
theorem test_f35_0 : (after 0x74064 { State.reset with a := 0x80000, fs := [(100, 0x1)], sa := 10 }
    fun t => decide (t.peek ⟨.fast, 100⟩ = 0x7FFFF) && decide (t.ovr = true)) = true := by decide
theorem test_f35_1 : (after 0x76064 { State.reset with a := 0x80000, fs := [(100, 0x200)], ms := [(512, 0x1)], sa := 10 }
    fun t => decide (t.peek ⟨.main, 512⟩ = 0x7FFFF) && decide (t.ovr = true)) = true := by decide
theorem test_f36_0 : (after 0x78064 { State.reset with a := 0x80000, fs := [(100, 0x1)], sa := 10 }
    fun t => decide (t.peek ⟨.fast, 100⟩ = 0x80001) && decide (t.ovr = true)) = true := by decide
theorem test_f36_1 : (after 0x7A064 { State.reset with a := 0x80000, fs := [(100, 0x200)], ms := [(512, 0x1)], sa := 10 }
    fun t => decide (t.peek ⟨.main, 512⟩ = 0x80001) && decide (t.ovr = true)) = true := by decide
theorem test_f37_0 : (after 0x7C064 { State.reset with a := 0x80000, fs := [(100, 0x1)], sa := 10 }
    fun t => decide (t.peek ⟨.fast, 100⟩ = 0x80000) && decide (t.ovr = false)) = true := by decide
theorem test_f37_1 : (after 0x7E064 { State.reset with a := 0x80000, fs := [(100, 0x200)], ms := [(512, 0x1)], sa := 10 }
    fun t => decide (t.peek ⟨.main, 512⟩ = 0x80000) && decide (t.ovr = false)) = true := by decide
theorem test_f40 : (after 0x80805 { State.reset with b := ⟨0x0, 0xFFFFF, 0x0, 0x0, 0x0, 0x0, 0x0⟩, sa := 10 }
    fun t => decide (t.b.b2 = 0x0) && decide (t.sf = .fast ∧ t.sa = 5)) = true := by decide
theorem test_f40_again : (after 0x80805 { State.reset with sa := 10 }
    fun t => decide (t.b.b2 = 0x0) && decide (t.sf = .fast ∧ t.sa = 11)) = true := by decide
theorem test_f41 : (after 0x86805 { State.reset with ovr := false, b := ⟨0x0, 0x80000, 0x0, 0x0, 0x0, 0x0, 0x0⟩, sa := 10 }
    fun t => decide (t.b.b2 = 0x7FFFF) && decide (t.ovr = false) && decide (t.sf = .main ∧ t.sa = 5)) = true := by decide
theorem test_f41_again : (after 0x86805 { State.reset with sa := 10 }
    fun t => decide (t.b.b2 = 0x0) && decide (t.sf = .fast ∧ t.sa = 11)) = true := by decide
theorem test_f42 : (after 0x88805 { State.reset with sa := 10 }
    fun t => decide (t.sf = .fast ∧ t.sa = 5)) = true := by decide
theorem test_f42_again : (after 0x88805 { State.reset with b := ⟨0x0, 0x80000, 0x0, 0x0, 0x0, 0x0, 0x0⟩, sa := 10 }
    fun t => decide (t.sf = .fast ∧ t.sa = 11)) = true := by decide
theorem test_f43 : (after 0x8CCC8 { State.reset with sa := 10 }
    fun t => decide (t.b.b3 = 0xB) && decide (t.sf = .fast ∧ t.sa = 200)) = true := by decide
theorem test_f43_again : (after 0x8CCC8 { State.reset with sf := .main, sa := 10 }
    fun t => decide (t.b.b3 = 0x8000B) && decide (t.sf = .fast ∧ t.sa = 200)) = true := by decide
theorem test_f44 : (after 0x9012C { State.reset with a := 0x0, sa := 10 }
    fun t => decide (t.sf = .fast ∧ t.sa = 300)) = true := by decide
theorem test_f44_again : (after 0x9012C { State.reset with a := 0x80000, sa := 10 }
    fun t => decide (t.sf = .fast ∧ t.sa = 11)) = true := by decide
theorem test_f45 : (after 0x9412C { State.reset with a := 0x80000, sa := 10 }
    fun t => decide (t.sf = .fast ∧ t.sa = 300)) = true := by decide
theorem test_f45_again : (after 0x9412C { State.reset with a := 0x0, sa := 10 }
    fun t => decide (t.sf = .fast ∧ t.sa = 11)) = true := by decide
theorem test_f46 : (after 0x9812C { State.reset with a := 0x0, sa := 10 }
    fun t => decide (t.sf = .fast ∧ t.sa = 300)) = true := by decide
theorem test_f46_again : (after 0x9812C { State.reset with a := 0x80000, sa := 10 }
    fun t => decide (t.sf = .fast ∧ t.sa = 11)) = true := by decide
theorem test_f47 : (after 0x9E12C { State.reset with ovr := true, sa := 10 }
    fun t => decide (t.ovr = false) && decide (t.sf = .main ∧ t.sa = 300)) = true := by decide
theorem test_f47_again : (after 0x9E12C { State.reset with ovr := false, sa := 10 }
    fun t => decide (t.ovr = false) && decide (t.sf = .fast ∧ t.sa = 11)) = true := by decide
theorem test_f50 : (after 0xA2C00 { State.reset with b := ⟨0x0, 0x0, 0x8000B, 0x0, 0x0, 0x0, 0x0⟩, sa := 10 }
    fun t => decide (t.sf = .main ∧ t.sa = 11)) = true := by decide
theorem test_f50_again : (after 0xA2C30 { State.reset with b := ⟨0x0, 0x0, 0x7D0, 0x0, 0x0, 0x0, 0x0⟩, sa := 10 }
    fun t => decide (t.sf = .main ∧ t.sa = 2048)) = true := by decide
theorem test_f51 : (after 0xA6001 { State.reset with sa := 20 }
    fun t => decide (t.sf = .main ∧ t.sa = 20)) = true := by decide
theorem test_f51_again : (after 0xA4804 { State.reset with b := ⟨0x0, 0x3, 0x0, 0x0, 0x0, 0x0, 0x0⟩, sa := 20 }
    fun t => decide (t.sf = .fast ∧ t.sa = 14)) = true := by decide
theorem test_f52_0 : (after 0xA8007 { State.reset with a := 0xF0F0F, fs := [(7, 0x3FFC0)], sa := 10 }
    fun t => decide (t.a = 0x30F00)) = true := by decide
theorem test_f52_1 : (after 0xAA007 { State.reset with a := 0xF0F0F, ms := [(7, 0x3FFC0)], sa := 10 }
    fun t => decide (t.a = 0x30F00)) = true := by decide
theorem test_f53_0 : (after 0xAC007 { State.reset with r := 0x1, fs := [(7, 0xABCDE)], sa := 10 }
    fun t => decide (t.r = 0xABCDE)) = true := by decide
theorem test_f53_1 : (after 0xAE007 { State.reset with r := 0x1, ms := [(7, 0xABCDE)], sa := 10 }
    fun t => decide (t.r = 0xABCDE)) = true := by decide
theorem test_f54_0 : (after 0xB0007 { State.reset with ovr := false, fs := [(7, 0x7FFFF)], sa := 10 }
    fun t => decide (t.peek ⟨.fast, 7⟩ = 0x80000) && decide (t.ovr = false)) = true := by decide
theorem test_f54_1 : (after 0xB2007 { State.reset with ms := [(7, 0xFFFFF)], sa := 10 }
    fun t => decide (t.peek ⟨.main, 7⟩ = 0x0)) = true := by decide
theorem test_f55_0 : (after 0xB4007 { State.reset with ovr := false, fs := [(7, 0x80000)], sa := 10 }
    fun t => decide (t.peek ⟨.fast, 7⟩ = 0x7FFFF) && decide (t.ovr = false)) = true := by decide
theorem test_f55_1 : (after 0xB6007 { State.reset with ms := [(7, 0xA)], sa := 10 }
    fun t => decide (t.peek ⟨.main, 7⟩ = 0x9)) = true := by decide
theorem test_f56_0 : (after 0xB8007 { State.reset with a := 0xF0F0F, fs := [(7, 0x3FFC0)], sa := 10 }
    fun t => decide (t.peek ⟨.fast, 7⟩ = 0x30F00) && decide (t.a = 0xF0F0F)) = true := by decide
theorem test_f56_1 : (after 0xBA007 { State.reset with a := 0xF0F0F, ms := [(7, 0x3FFC0)], sa := 10 }
    fun t => decide (t.peek ⟨.main, 7⟩ = 0x30F00)) = true := by decide
theorem test_f57_0 : (after 0xBC007 { State.reset with r := 0x80007, sa := 10 }
    fun t => decide (t.peek ⟨.fast, 7⟩ = 0x80007)) = true := by decide
theorem test_f57_1 : (after 0xBE007 { State.reset with r := 0x80007, sa := 10 }
    fun t => decide (t.peek ⟨.main, 7⟩ = 0x80007)) = true := by decide
theorem test_f60 : (after 0xC03FC { State.reset with a := 0xC0003, sa := 10 }
    fun t => decide (t.a = 0xC000)) = true := by decide
theorem test_f60_again : (after 0xC0200 { State.reset with a := 0xC0003, sa := 10 }
    fun t => decide (t.a = 0xC0003)) = true := by decide
theorem test_f61 : (after 0xC4001 { State.reset with a := 0xA0000, ovr := false, sa := 10 }
    fun t => decide (t.a = 0x40000) && decide (t.ovr = true)) = true := by decide
theorem test_f61_again : (after 0xC43FF { State.reset with a := 0xFFFFB, sa := 10 }
    fun t => decide (t.a = 0xFFFFD)) = true := by decide
theorem test_f62 : (after 0xC8000 { State.reset with a := 0x12345, r := 0xE789A, sa := 10 }
    fun t => decide (t.a = 0x12345) && decide (t.r = 0x6789A)) = true := by decide
theorem test_f62_again : (after 0xC8026 { State.reset with a := 0x0, r := 0x1, ovr := false, sa := 10 }
    fun t => decide (t.a = 0x80000) && decide (t.r = 0x0) && decide (t.ovr = true)) = true := by decide
theorem test_f63_0 : (after 0xCC007 { State.reset with a := 0x1, fs := [], sa := 10 }
    fun t => decide (t.a = 0x2D4) && decide (t.r = 0x0)) = true := by decide
theorem test_f63_0_again : (after 0xCC007 { State.reset with a := 0x40000, fs := [(7, 0x40000)], sa := 10 }
    fun t => decide (t.r = 0x0) && decide (t.ovr = true)) = true := by decide
theorem test_f64_0 : (after 0xD0007 { State.reset with a := 0xFFFFF, fs := [(7, 0x1)], sa := 10 }
    fun t => decide (t.a = 0xFFFFF) && decide (t.r = 0x7FFFF)) = true := by decide
theorem test_f64_0_again : (after 0xD0007 { State.reset with a := 0x80000, fs := [(7, 0x80000)], sa := 10 }
    fun t => decide (t.a = 0x80000) && decide (t.r = 0x0) && decide (t.ovr = true)) = true := by decide
theorem test_f65_0 : (after 0xD4007 { State.reset with a := 0xFFFFF, fs := [(7, 0x40000)], sa := 10 }
    fun t => decide (t.a = 0x0) && decide (t.r = 0x0)) = true := by decide
theorem test_f65_0_again : (after 0xD4007 { State.reset with a := 0x80000, fs := [(7, 0x80000)], sa := 10 }
    fun t => decide (t.a = 0x80000) && decide (t.r = 0x0) && decide (t.ovr = true)) = true := by decide
theorem test_f66_0 : (after 0xD8007 { State.reset with a := 0xFFFFF, r := 0x7FFF9, fs := [(7, 0x2)], sa := 10 }
    fun t => decide (t.r = 0xFFFFD) && decide (t.a = 0xFFFFF)) = true := by decide
theorem test_f66_0_again : (after 0xD8007 { State.reset with a := 0x40000, r := 0x0, fs := [(7, 0x40000)], sa := 10 }
    fun t => decide (t.ovr = true)) = true := by decide
theorem test_f67_0 : (after 0xDC007 { State.reset with a := 0xFFFFF, r := 0x7FFF9, fs := [(7, 0x2)], sa := 10 }
    fun t => decide (t.a = 0xFFFFD) && decide (t.r = 0x0)) = true := by decide
theorem test_f67_0_again : (after 0xDC007 { State.reset with a := 0x40000, r := 0x0, fs := [(7, 0x40000)], sa := 10 }
    fun t => decide (t.r = 0x0) && decide (t.ovr = true)) = true := by decide
theorem test_f63_1 : (after 0xCE007 { State.reset with a := 0x10000, ms := [(7, 0x10000)], sa := 10 }
    fun t => decide (t.a = 0x40000) && decide (t.r = 0x0)) = true := by decide
theorem test_f64_1 : (after 0xD2007 { State.reset with a := 0xC0000, ms := [(7, 0x20000)], sa := 10 }
    fun t => decide (t.a = 0xF0000) && decide (t.r = 0x0)) = true := by decide
theorem test_f65_1 : (after 0xD6007 { State.reset with a := 0xFFFFF, ms := [(7, 0x40000)], sa := 10 }
    fun t => decide (t.a = 0x0) && decide (t.r = 0x0)) = true := by decide
theorem test_f66_1 : (after 0xDA007 { State.reset with a := 0xFFFFF, r := 0x7FFF9, ms := [(7, 0xFFFFE)], sa := 10 }
    fun t => decide (t.r = 0x3) && decide (t.a = 0xFFFFF)) = true := by decide
theorem test_f67_1 : (after 0xDE007 { State.reset with a := 0x0, r := 0x7, ms := [(7, 0xFFFFE)], sa := 10 }
    fun t => decide (t.a = 0xFFFFD) && decide (t.r = 0x0)) = true := by decide

/-- A drawn word: here the environment has supplied it before the step. -/
theorem test_f70 : (after 0xE0001 { State.reset with a := 0x7FFFF, inputs := [1], sa := 10 } fun t =>
    decide (t.a = 0x80000) && t.ovr && decide (t.events = [.devIn ⟨0, 0, 1⟩ 1]) && decide (t.inputs = [])) =
    true := by decide
theorem test_f73 : (after 0xEC800
    { State.reset with b := ⟨0, 1, 0, 0, 0, 0, 0⟩, inputs := [0x41], sa := 10 } fun t =>
    decide (t.a = 0x41) && decide (t.events = [.devIn ⟨0, 0, 1⟩ 0x41])) = true := by decide
/-- With nothing supplied the word is the free value, whatever it is. -/
theorem test_f73_free : ∃ t, step (State.reset.withFetchWord 20 0xEC002) = .next t ∧
    t.a = Config.deviceInput 0 ∧ t.freeCount = 1 := ⟨_, rfl, rfl, rfl⟩
theorem test_f74 : (after 0xF02A5 { State.reset with sa := 10 } fun t =>
    decide (t.events = [.devCmd 1 5 10])) = true := by decide
theorem test_f76 : (after 0xF8C00
    { State.reset with b := ⟨0, 0, 0x8000B, 0, 0, 0, 0⟩, sa := 10 } fun t =>
    decide (t.sf = .fast) && decide (t.sa = 11) && t.ended &&
    decide (t.events = [.programBreak .fast 11])) = true := by decide
theorem test_f77 : (after 0xFC002 { State.reset with a := 1, sa := 10 } fun t =>
    decide (t.events = [.devOut ⟨0, 0, 2⟩ 1]) && decide (t.peek ⟨.fast, 2⟩ = 0)) = true := by decide

/-! Address formation and refusals (95_test_vectors.md) -/

theorem test_direct_operand_is_signed :
    (after 0x20864 { State.reset with b := ⟨0, 0xFFF38, 0, 0, 0, 0, 0⟩, sa := 10 } fun t =>
      decide (t.a = 0xFFF9C)) = true := by decide
theorem test_bit_19_of_the_modified_address_is_dropped :
    (after 0x2E400 { State.reset with b := ⟨0x80064, 0, 0, 0, 0, 0, 0⟩, ms := [(100, 0x42)], sa := 10 }
      fun t => decide (t.a = 0x42)) = true := by decide
theorem test_bit_19_of_the_indirect_address_is_dropped :
    (after 0x6E064 { State.reset with fs := [(100, 0x80200)], ms := [(512, 0x777)], sa := 10 } fun t =>
      decide (t.a = 0x777)) = true := by decide
theorem test_main_location_out_of_range :
    faults 0x2E7E8 { State.reset with b := ⟨4000, 0, 0, 0, 0, 0, 0⟩, sa := 10 }
      (.addressOutOfRange ⟨.main, 5000⟩) = true := by decide
theorem test_fast_location_out_of_range :
    faults 0x607FF { State.reset with b := ⟨1, 0, 0, 0, 0, 0, 0⟩, sa := 10 }
      (.addressOutOfRange ⟨.fast, 1024⟩) = true := by decide
theorem test_no_index_register_named :
    refuses 0x00005 State.reset .noIndexRegisterNamed = true ∧
    refuses 0x80005 State.reset .noIndexRegisterNamed = true := by decide
theorem test_unallocated :
    refuses 0x30005 State.reset (.unallocated 0o14 false) = true ∧
    refuses 0xF6000 State.reset (.unallocated 0o75 true) = true ∧
    refuses 0xE4000 State.reset (.unallocated 0o71 false) = true := by decide
theorem test_last_location_of_the_fast_store :
    (after 0x2C007 { State.reset with sa := 1023 } fun t =>
      decide (t.a = 7 ∧ t.sf = .fast ∧ t.sa = 1024)) = true ∧
    (after 0xA0000 { State.reset with sa := 1023 } fun t => decide (t.sf = .fast ∧ t.sa = 0)) = true ∧
    faults 0 { State.reset with sa := 1024 } (.addressOutOfRange ⟨.fast, 1024⟩) = true := by decide
theorem test_last_location_of_a_full_main_store :
    faults 0xA0000 { State.reset with sf := .main, sa := 524287, mainSize := 2 ^ 19 }
      (.addressOutOfRange ⟨.main, 524288⟩) = true := by decide
theorem test_jump_backwards_below_zero :
    (after 0xA4004 { State.reset with sa := 2 } fun t => decide (t.sa = 524287)) = true := by decide

/-! ### States and operands that meet the hypotheses of the statements -/

/-- A small machine: 100 fast and 200 main locations, B[2] = 1, two indirect addresses, one at each side of
the end of the main store. -/
def small : State :=
  { State.reset with b := ⟨0, 1, 0, 0, 0, 0, 0⟩, fastSize := 100, mainSize := 200, sa := 10,
                     fs := [(5, 199), (6, 200)] }

/-- The operand's locations exist. -/
def operandThere (form : Form) (nm : Word) (s : State) : Bool :=
  !(decide (form = .indirect) && decide (s.fastSize ≤ (fastLoc nm).number)) &&
    decide ((location form nm s).number < s.size (location form nm s).store)

/-- The operand location does not exist (in the indirect form, its holder does). -/
def operandGone (form : Form) (nm : Word) (s : State) : Bool :=
  !(decide (form = .indirect) && decide (s.fastSize ≤ (fastLoc nm).number)) &&
    !decide ((location form nm s).number < s.size (location form nm s).store)

/-- The location that holds the indirect address does not exist. -/
def holderGone (nm : Word) (s : State) : Bool := decide (s.fastSize ≤ (fastLoc nm).number)

/-- The clauses of AtOperand at the ends of the stores of `small`, for the address a field `n` gives. -/
def fastClauses (nm : AddressBits → Word) : Prop :=
  operandThere .fast (nm 99) small ∧ operandGone .fast (nm 100) small
/-- The same for the main store. -/
def mainClauses (nm : AddressBits → Word) : Prop :=
  operandThere .main (nm 199) small ∧ operandGone .main (nm 200) small
/-- The same for the indirect form. -/
def indirectClauses (nm : AddressBits → Word) : Prop :=
  operandThere .indirect (nm 5) small ∧ operandGone .indirect (nm 6) small ∧ holderGone (nm 100) small

theorem small_storesWf : small.storesWf := ⟨by decide, by decide⟩
theorem plain_fastClauses : fastClauses plainN := by unfold fastClauses; decide
theorem plain_mainClauses : mainClauses plainN := by unfold mainClauses; decide
theorem plain_indirectClauses : indirectClauses plainN := by unfold indirectClauses; decide
theorem modified_fastClauses : fastClauses (modifiedN small 0) := by unfold fastClauses; decide
theorem modified_mainClauses : mainClauses (modifiedN small 0) := by unfold mainClauses; decide
theorem modified_indirectClauses : indirectClauses (modifiedN small 0) := by
  unfold indirectClauses; decide
/-- With a modifier, B[2] = 1, the ends are reached one address earlier. -/
theorem modified_by_a_register :
    operandThere .fast (modifiedN small 2 98) small ∧ operandGone .fast (modifiedN small 2 99) small ∧
    operandThere .main (modifiedN small 2 198) small ∧ operandGone .main (modifiedN small 2 199) small ∧
    operandThere .indirect (modifiedN small 2 4) small ∧ operandGone .indirect (modifiedN small 2 5) small ∧
    holderGone (modifiedN small 2 99) small := by decide

/-- All three clauses: an unallocated word at either end of the list of codes, a missing index register at
both ends of each range, and words just outside them. -/
theorem witness_DecodingProcedureRefusesByName :
    (codeOf 0xE4000 = 0o71 ∧ codeOf 0xF4000 = 0o75) ∧ (codeOf 0x10000 = 0o04 ∧ modeOf 0x10000 = 0) ∧
    (codeOf 0x3C000 = 0o17 ∧ modeOf 0x3C000 = 0) ∧
    (codeOf 0x00000 = 0 ∧ indexOf 0x00000 = 0) ∧ (codeOf 0x1E000 = 0o07 ∧ modeOf 0x1E000 = 1) ∧
    (codeOf 0x40000 = 0o20 ∧ indexOf 0x40000 = 0) ∧ (codeOf 0x5C000 = 0o27 ∧ indexOf 0x5C000 = 0) ∧
    (codeOf 0x80000 = 0o40 ∧ indexOf 0x80000 = 0) ∧ (codeOf 0x8C000 = 0o43 ∧ indexOf 0x8C000 = 0) ∧
    (codeOf 0x20000 = 0o10 ∧ indexOf 0x20000 = 0) ∧ (codeOf 0x90000 = 0o44 ∧ indexOf 0x90000 = 0) ∧
    (codeOf 0x00400 = 0 ∧ indexOf 0x00400 = 1) := by decide

/-- The last location of the fast store. -/
theorem witness_StepRunsTheDecodedInstruction :
    let s : State := { State.reset with sa := 1023 }
    s.refusedMark = none ∧ s.ended = false ∧ s.sa.toNat < s.size s.sf ∧ s.sa.toNat + 1 < 2 ^ 19 := by decide

theorem witness_FetchBeyondTheStoreFaults :
    (let s : State := { State.reset with sa := 1024 }
     s.refusedMark = none ∧ s.ended = false ∧ s.size s.sf ≤ s.sa.toNat) ∧
    (let s : State := { State.reset with sa := 524287, sf := .main, mainSize := 2 ^ 19 }
     s.refusedMark = none ∧ s.ended = false ∧ s.sa.toNat < s.size s.sf ∧ s.sa.toNat = 2 ^ 19 - 1) := by decide

theorem witness_StoppedRunTakesNoStep :
    (let s : State := { State.reset with refusedMark := some (.fault (.addressOutOfRange ⟨.fast, 1024⟩)) }
     s.refusedMark = some (.fault (.addressOutOfRange ⟨.fast, 1024⟩))) ∧
    (let s : State := { State.reset with refusedMark := some (.refusal .noIndexRegisterNamed) }
     s.refusedMark = some (.refusal .noIndexRegisterNamed)) ∧
    (let s : State := { State.reset with ended := true }
     s.refusedMark = none ∧ s.ended = true) := by decide

theorem witness_RefusedStepOnlyMarksTheRun :
    (let s : State := { State.reset with sa := 1024 }
     s.refusedMark = none ∧ step s = .fault (.addressOutOfRange ⟨.fast, 1024⟩)) ∧
    (State.reset.refusedMark = none ∧ step State.reset = .refused .noIndexRegisterNamed) :=
  ⟨⟨rfl, rfl⟩, rfl, rfl⟩

theorem witness_PlacedWordIsTheNextInstruction :
    let s : State := { State.reset with sa := 1023 }
    s.storesWf ∧ s.sa.toNat < s.size s.sf ∧ s.sa.toNat + 1 < 2 ^ 19 ∧
      decodeTableWord 24 0x2C007 = some (.f13_0 0 7) :=
  ⟨⟨by decide, by decide⟩, by decide, by decide, by decide⟩

/-- A state that meets the invariant and steps: 76.0 0 at location 10. -/
theorem witness_StepKeepsTheInvariant :
    let s : State := { State.reset with sa := 10, fs := [(10, 0xF8000)] }
    s.Inv ∧ ∃ t, step s = .next t ∧ t.ended = true :=
  ⟨⟨by decide, by decide, by decide, by decide, by decide, by decide, fun h => absurd h (by decide)⟩,
    _, rfl, rfl⟩

/-- A register form, a storing form and one that records an event, each with a next state. -/
theorem witness_EveryInstructionKeepsItsFrame :
    (∃ t, exec (.f10_0 0 3) small = .next t ∧ storedTo small (.f10_0 0 3) = none) ∧
    (∃ t, exec (.f37_0 0 99) small = .next t ∧ storedTo small (.f37_0 0 99) = some ⟨.fast, 99⟩) ∧
    (∃ t, exec (.f27_1 2 5) small = .next t ∧ storedTo small (.f27_1 2 5) = some ⟨.main, 199⟩) ∧
    (∃ t, exec (.f77 false 0 1) small = .next t ∧ emitsEvent (.f77 false 0 1) = true) :=
  ⟨⟨_, rfl, rfl⟩, ⟨_, rfl, rfl⟩, ⟨_, rfl, rfl⟩, ⟨_, rfl, rfl⟩⟩

theorem witness_OnlyFunction47ClearsTheMarker :
    ∃ t, exec (.f47 false 0 1) { small with ovr := true } = .next t ∧ t.ovr = false := ⟨_, rfl, rfl⟩

theorem witness_HistoryOnlyGrows :
    (∃ t, exec (.f74 false 0 677) small = .next t ∧ t.events = [.devCmd 1 5 10]) ∧
    (∃ t, exec (.f50 false 0 7) small = .next t ∧ t.events = []) := ⟨⟨_, rfl, by decide⟩, ⟨_, rfl, rfl⟩⟩

/-- Index register 2 with a sum that overflows, and registers 1 and 7. -/
theorem witness_IndexRegisterSumsWithTheDirectOperand :
    (1 : IndexSpec) ≠ 0 ∧ (2 : IndexSpec) ≠ 0 ∧ (7 : IndexSpec) ≠ 0 := by decide
theorem witness_IndexRegisterSumsWithAStoreOperand :
    (2 : IndexSpec) ≠ 0 ∧ mainClauses plainN ∧ fastClauses plainN ∧ indirectClauses plainN :=
  ⟨by decide, plain_mainClauses, plain_fastClauses, plain_indirectClauses⟩
theorem witness_IndexRegisterCopies :
    (2 : IndexSpec) ≠ 0 ∧ mainClauses plainN ∧ fastClauses plainN ∧ indirectClauses plainN :=
  ⟨by decide, plain_mainClauses, plain_fastClauses, plain_indirectClauses⟩
theorem witness_IndexRegisterSumsIntoTheStore :
    (2 : IndexSpec) ≠ 0 ∧ small.storesWf ∧ mainClauses plainN ∧ fastClauses plainN ∧ indirectClauses plainN :=
  ⟨by decide, small_storesWf, plain_mainClauses, plain_fastClauses, plain_indirectClauses⟩
theorem witness_IndexRegisterStores :
    (2 : IndexSpec) ≠ 0 ∧ small.storesWf ∧ mainClauses plainN ∧ fastClauses plainN ∧ indirectClauses plainN :=
  ⟨by decide, small_storesWf, plain_mainClauses, plain_fastClauses, plain_indirectClauses⟩
theorem witness_BNamingFunctionsNeedAnIndexRegister :
    (Instr.f00_0 0 5).bNaming = true ∧ (Instr.f00_0 0 5).indexSpec = 0 ∧
    (Instr.f27_1 0 5).bNaming = true ∧ (Instr.f43 true 0 5).bNaming = true ∧
    (Instr.f43 true 0 5).indexSpec = 0 := by decide
theorem witness_AccumulatorSumsWithAStoreOperand :
    mainClauses (modifiedN small 0) ∧ fastClauses (modifiedN small 0) ∧ indirectClauses (modifiedN small 0) :=
  ⟨modified_mainClauses, modified_fastClauses, modified_indirectClauses⟩
theorem witness_AccumulatorLoadsAStoreWord :
    mainClauses (modifiedN small 0) ∧ fastClauses (modifiedN small 0) :=
  ⟨modified_mainClauses, modified_fastClauses⟩
theorem witness_AccumulatorCopiesDirectAndIndirect :
    small.storesWf ∧ indirectClauses (modifiedN small 0) := ⟨small_storesWf, modified_indirectClauses⟩
theorem witness_AccumulatorSumsIntoTheStore :
    small.storesWf ∧ mainClauses (modifiedN small 0) ∧ fastClauses (modifiedN small 0) ∧
      indirectClauses (modifiedN small 0) :=
  ⟨small_storesWf, modified_mainClauses, modified_fastClauses, modified_indirectClauses⟩
theorem witness_AccumulatorStores :
    small.storesWf ∧ mainClauses (modifiedN small 0) ∧ fastClauses (modifiedN small 0) :=
  ⟨small_storesWf, modified_mainClauses, modified_fastClauses⟩

/-- B[1] = 0 and B[2] = 1. -/
theorem witness_CountingJumps :
    (1 : IndexSpec) ≠ 0 ∧ small.b.get 1 = 0 ∧ (2 : IndexSpec) ≠ 0 ∧ small.b.get 2 ≠ 0 := by decide
/-- X = 0; B[1] = 0; B[2] = 1, the least value that is not zero. -/
theorem witness_JumpIfIndexRegisterZero :
    (1 : IndexSpec) ≠ 0 ∧ (small.b.get 1).toNat = 0 ∧ (2 : IndexSpec) ≠ 0 ∧ (small.b.get 2).toNat = 1 := by
  decide
theorem witness_SubroutineJumpSavesTheLink :
    (3 : IndexSpec) ≠ 0 ∧ small.sf = .fast ∧ ({ small with sf := .main } : State).sf = .main := by decide
/-- A = 0, A = -1 and A = -2^19: the values where the three tests differ. -/
theorem witness_JumpsOnTheAccumulator :
    (0 ≤ small.a.toInt ∧ small.a.toNat = 0) ∧ (0xFFFFF#20).toInt < 0 ∧ (0x80000#20).toInt < 0 ∧
    0 ≤ (0x7FFFF#20).toInt := by decide
theorem witness_TestOverflowClearsTheMarker :
    small.ovr = false ∧ ({ small with ovr := true } : State).ovr = true := by decide
theorem witness_GroupFourNeverSetsTheMarker :
    (∃ t, exec (.f40 false 2 5) small = .next t) ∧ (2 : IndexSpec) ≠ 0 ∧
    (small.setB 2 0x7FFFF#20).b.get 2 = 0x7FFFF#20 ∧ (small.setB 2 0xFFFFF#20).b.get 2 = 0xFFFFF#20 ∧
    (small.setB 2 0x80000#20).b.get 2 = 0x80000#20 := ⟨⟨_, rfl⟩, by decide, rfl, rfl, rfl⟩
/-- The returning state is another one with the link still in B[3]. -/
theorem witness_SubroutineReturnReachesTheCaller :
    (3 : IndexSpec) ≠ 0 ∧ ∃ t, exec (.f43 true 3 20) small = .next t ∧
      (State.reset.setB 3 (t.b.get 3)).b.get 3 = t.b.get 3 := ⟨by decide, _, rfl, rfl⟩
/-- No jump, one jump, and every jump of a loop of three. -/
theorem witness_CountDownLoopJumpsExactlyOftenEnough :
    (2 : IndexSpec) ≠ 0 ∧ 0 ≤ ((small.setB 2 3).b.get 2).toNat ∧ 1 ≤ ((small.setB 2 3).b.get 2).toNat ∧
    3 = ((small.setB 2 3).b.get 2).toNat := by decide
theorem witness_CollateToA : fastClauses (modifiedN small 0) ∧ mainClauses (modifiedN small 0) :=
  ⟨modified_fastClauses, modified_mainClauses⟩
theorem witness_CollateToStore :
    small.storesWf ∧ fastClauses (modifiedN small 0) ∧ mainClauses (modifiedN small 0) :=
  ⟨small_storesWf, modified_fastClauses, modified_mainClauses⟩
theorem witness_AuxiliaryRegisterMoves :
    small.storesWf ∧ fastClauses (modifiedN small 0) ∧ mainClauses (modifiedN small 0) :=
  ⟨small_storesWf, modified_fastClauses, modified_mainClauses⟩
theorem witness_CountsInStore :
    small.storesWf ∧ fastClauses (modifiedN small 0) ∧ mainClauses (modifiedN small 0) :=
  ⟨small_storesWf, modified_fastClauses, modified_mainClauses⟩
/-- Counts on both sides of bit 9, and the register of the last clause. -/
theorem witness_ShiftCountFromTheModifiedAddress :
    (511#20).toNat % 1024 < 512 ∧ 512 ≤ (512#20).toNat % 1024 ∧ 512 ≤ (1023#20).toNat % 1024 ∧
    (1024#20).toNat % 1024 < 512 ∧ (2 : IndexSpec) ≠ 0 ∧ ((small.setB 2 0xFFFF8#20).b.get 2).toInt = -8 := by
  decide
/-- A left and a right shift by the largest count. -/
theorem witness_LogicalShiftOfA :
    shiftCount (modifiedN small 0 63) = 63 ∧ shiftCount (modifiedN small 0 961) = -63 := by decide

/-- Radicands at both ends of the domain, and one on either side of it. -/
theorem witness_SquareRootIsTheLargestRoot :
    fastClauses (modifiedN small 0) ∧ mainClauses (modifiedN small 0) ∧
    (small.a.toInt + (small.peek ⟨.fast, 99⟩).toInt = 0) ∧
    ((0x7FFFF#20).toInt + (small.peek ⟨.fast, 99⟩).toInt = 2 ^ 19 - 1) ∧
    ((0x7FFFF#20).toInt + (1#20).toInt = 2 ^ 19) ∧ ((0xFFFFF#20).toInt + (0#20).toInt = -1) :=
  ⟨modified_fastClauses, modified_mainClauses, by decide, by decide, by decide, by decide⟩
theorem witness_DoubleLengthProductIsExact :
    fastClauses (modifiedN small 0) ∧ mainClauses (modifiedN small 0) :=
  ⟨modified_fastClauses, modified_mainClauses⟩
theorem witness_RoundedProductIsTheNearest :
    fastClauses (modifiedN small 0) ∧ mainClauses (modifiedN small 0) :=
  ⟨modified_fastClauses, modified_mainClauses⟩
/-- Quotients at both ends of the scale, one beyond each, and a zero divisor. -/
theorem witness_DivisionLeavesQuotientAndRemainder :
    fastClauses (modifiedN small 0) ∧ mainClauses (modifiedN small 0) ∧
    Int.tdiv (2 ^ 19 - 1) 1 = 2 ^ 19 - 1 ∧ Int.tdiv (-2 ^ 19) 1 = -2 ^ 19 ∧ Int.tdiv (2 ^ 19) 1 = 2 ^ 19 ∧
    Int.tdiv (-2 ^ 19 - 1) 1 = -2 ^ 19 - 1 ∧ (small.peek ⟨.fast, 99⟩).toInt = 0 :=
  ⟨modified_fastClauses, modified_mainClauses, by decide, by decide, by decide, by decide, by decide⟩
/-- The same for the rounded quotient, with a tie at the upper end that leaves the scale. -/
theorem witness_RoundedDivisionIsTheNearest :
    fastClauses (modifiedN small 0) ∧ mainClauses (modifiedN small 0) ∧
    ⌊((2 ^ 20 - 2 : Int) : ℚ) / ((2 : Int) : ℚ) + 1 / 2⌋ = 2 ^ 19 - 1 ∧
    ⌊((2 ^ 20 - 1 : Int) : ℚ) / ((2 : Int) : ℚ) + 1 / 2⌋ = 2 ^ 19 ∧
    (small.peek ⟨.fast, 99⟩).toInt = 0 :=
  ⟨modified_fastClauses, modified_mainClauses, by norm_num, by norm_num, by decide⟩
/-- Both ways to draw: a supplied word, and none. -/
theorem witness_InputAndAddSumsTheDrawnWord :
    (∃ u rest, ({ small with inputs := [3] } : State).inputs = u :: rest) ∧ small.inputs = [] :=
  ⟨⟨3, [], rfl⟩, rfl⟩
theorem witness_InputLoadsTheDrawnWord :
    (∃ u rest, ({ small with inputs := [3, 4] } : State).inputs = u :: rest) ∧ small.inputs = [] :=
  ⟨⟨3, [4], rfl⟩, rfl⟩
theorem witness_ProgramBreakEndsTheRun : small.refusedMark = none := rfl
/-- No modifier, a sum within 2^20 and one beyond it. -/
theorem witness_ModifiedOperandIsTheWrappedSum :
    modifiedN small 0 5 = 5 ∧ modifiedN small 2 5 = 6 ∧ modifiedN (small.setB 2 0xFFFFF#20) 2 5 = 4 := by
  decide
theorem witness_DoubleLengthRegisterRoundTrip :
    (-2 ^ 38 : Int) ≤ -2 ^ 38 ∧ (-2 ^ 38 : Int) ≤ 2 ^ 38 - 1 ∧ (2 ^ 38 - 1 : Int) ≤ 2 ^ 38 - 1 := by decide

end Sys2Proof.Tests
end

section
/-! PROOFS. Operand assembly (30_encoding.md R66, R67): the modified operand, its low ten bits and the shift
count they give. -/

namespace Sys2Proof.Machine

/-! ### The modified operand -/

theorem modifiedN_of_ne (s : State) {x : IndexSpec} (n : AddressBits) (hx : x ≠ 0) :
    modifiedN s x n = plainN n + s.b.get x := if_neg hx

/-! ### The low ten bits and the shift count -/

theorem lowTen_eq_mod (nm : Word) : lowTen nm = nm.toNat % 1024 := by
  simp [lowTen, BitVec.extractLsb'_toNat]

/-- Bit 9 is the sign of the low ten bits. -/
theorem getLsbD_nine_iff (nm : Word) : nm.getLsbD 9 = true ↔ 512 ≤ nm.toNat % 1024 := by
  rw [BitVec.getLsbD, Nat.testBit_eq_decide_div_mod_eq, decide_eq_true_iff]
  omega

theorem shiftCount_of_lt (nm : Word) (hlt : nm.toNat % 1024 < 512) :
    shiftCount nm = ((nm.toNat % 64 : Nat) : Int) := by
  have hbit : ¬ nm.getLsbD 9 = true := fun hb => absurd ((getLsbD_nine_iff nm).mp hb) (by omega)
  rw [shiftCount, if_neg hbit, lowTen_eq_mod, Nat.mod_mod_of_dvd _ (by decide)]

theorem shiftCount_of_le (nm : Word) (hle : 512 ≤ nm.toNat % 1024) :
    shiftCount nm = -(((1024 - nm.toNat % 1024) % 1024 % 64 : Nat) : Int) := by
  rw [shiftCount, if_pos ((getLsbD_nine_iff nm).mpr hle), lowTen_eq_mod]

/-- Six bits of size on either side of zero. -/
theorem shiftCount_bounds (nm : Word) : -63 ≤ shiftCount nm ∧ shiftCount nm ≤ 63 := by
  rcases Nat.lt_or_ge (nm.toNat % 1024) 512 with hlt | hle
  · rw [shiftCount_of_lt nm hlt]; omega
  · rw [shiftCount_of_le nm hle]; omega

/-- A modifier of -8 takes N = 5 to the word of -3, through the word's whole width. -/
theorem modifiedN_five_of_minus_eight (s : State) {x : IndexSpec} (hx : x ≠ 0)
    (hb : (s.b.get x).toInt = -8) : modifiedN s x 5 = BitVec.ofInt 20 (-3) := by
  have hword : s.b.get x = BitVec.ofInt 20 (-8) := BitVec.eq_of_toInt_eq (hb.trans (by decide))
  rw [modifiedN_of_ne s 5 hx, hword]
  decide

end Sys2Proof.Machine

namespace Sys2Proof.Proofs
open Sys2Proof.Machine

/-- Settles O42: the two sides of bit 9, the bounds they give, and the examples of R67. -/
theorem shiftCountFromTheModifiedAddress : Obligations.ShiftCountFromTheModifiedAddress := by
  refine ⟨fun nm => ⟨shiftCount_of_lt nm, shiftCount_of_le nm, shiftCount_bounds nm⟩,
    by decide, by decide, by decide, fun s x hx hb => ?_⟩
  rw [modifiedN_five_of_minus_eight s hx hb]
  decide

/-- Settles O56: the meaning of each of the eleven rows is its refusal, so no path looks at the state, X or N
(R71, R246; decision D15). -/
theorem unallocatedFunctionsAreRefused : Obligations.UnallocatedFunctionsAreRefused := by
  intro m x n s
  -- 04.0 to 07.0, 14.0 to 17.0, then 71, 72 and 75.
  exact ⟨rfl, rfl, rfl, rfl, rfl, rfl, rfl, rfl, rfl, rfl, rfl⟩

end Sys2Proof.Proofs
end

section
/-! PROOFS. Store operands (20_memory.md R43, R45, R46; 60_exceptions.md R261): from the way an instruction
uses its operand location to the statement `AtOperand` makes of it, for every operand form. -/

namespace Sys2Proof.Machine

/-! ### Where the operand's locations exist, and where they do not -/

theorem hasLoc_eq_false_iff (s : State) (l : Loc) :
    s.hasLoc l = false ↔ ¬ l.number < s.size l.store := by
  rw [← hasLoc_iff, Bool.not_eq_true]

/-- Only the indirect form has a holder that can be missing. -/
theorem holderExists_eq_false_iff (form : Form) (nm : Word) (s : State) :
    holderExists form nm s = false ↔ form = .indirect ∧ s.fastSize ≤ (fastLoc nm).number := by
  cases form with
  | fast => simp [holderExists]
  | main => simp [holderExists]
  | indirect => simp [holderExists, hasLoc_eq_false_iff, State.size, fastLoc]

theorem locate_of_holderExists {form : Form} {nm : Word} {s : State} (next : Loc → Result)
    (h : holderExists form nm s = true) : locate form nm s next = next (location form nm s) := if_pos h

theorem locate_of_not_holderExists {form : Form} {nm : Word} {s : State} (next : Loc → Result)
    (h : holderExists form nm s = false) :
    locate form nm s next = .fault (.addressOutOfRange (fastLoc nm)) := if_neg (by simp [h])

/-! ### The ways an instruction uses its operand location -/

/-- The three branches of `AtOperand` are the missing holder of `locate`, and a continuation that finds the
operand location or faults with its name. -/
theorem atOperand_of_locate {i : Instr} {form : Form} {nm : Word} {s : State} {P : Loc → Prop}
    {next : Loc → Result} (hexec : exec i s = locate form nm s next)
    (hmissing : ∀ l, s.hasLoc l = false → next l = .fault (.addressOutOfRange l))
    (hfound : ∀ l, s.hasLoc l = true → exec i s = next l → P l) : AtOperand i form nm s P := by
  unfold AtOperand
  split_ifs with hholder hloc
  · rw [hexec, locate_of_not_holderExists next ((holderExists_eq_false_iff form nm s).2 hholder)]
  all_goals
    rw [← holderExists_eq_false_iff, Bool.not_eq_false] at hholder
    have hat := hexec.trans (locate_of_holderExists next hholder)
  · exact hfound _ ((hasLoc_iff s _).2 hloc) hat
  · exact hat.trans (hmissing _ ((hasLoc_eq_false_iff s _).2 hloc))

/-- An instruction that goes on with the operand word. -/
theorem atOperand_of_withOperand {i : Instr} {form : Form} {nm : Word} {s : State} {P : Loc → Prop}
    {next : Word → Result} (hexec : exec i s = withOperand form nm s next)
    (hfound : ∀ l, exec i s = next (s.peek l) → P l) : AtOperand i form nm s P :=
  atOperand_of_locate hexec (fun _ => loadWord_of_not_hasLoc next)
    fun l hloc hat => hfound l (hat.trans (loadWord_of_hasLoc next hloc))

/-- A write to one location is all that `StoresWord` allows. -/
theorem storesWord_of_poke {i : Instr} {s : State} {l : Loc} {w : Word} (hwf : s.storesWf)
    (hexec : exec i s = .next (s.poke l w)) : StoresWord i s l w :=
  ⟨s.poke l w, hexec, rfl, State.peek_poke_same s l w hwf.1 hwf.2,
    fun l' hne => State.peek_poke_other s l l' w hne⟩

/-- An instruction that writes a word to the operand location, whatever stood there. -/
theorem atOperand_of_storeOperand {i : Instr} {form : Form} {nm w : Word} {s : State} (hwf : s.storesWf)
    (hexec : exec i s = storeOperand form nm w s) :
    AtOperand i form nm s (fun l => StoresWord i s l w) :=
  atOperand_of_locate hexec (fun _ => storeWord_of_not_hasLoc w)
    fun _ hloc hat => storesWord_of_poke hwf (hat.trans (storeWord_of_hasLoc w hloc))

end Sys2Proof.Machine
end

section
/-! PROOFS. Group 1 and Group 3, load and store of the Accumulator by direct main-store and fast-store
addresses (41_group1_short_arith_direct_main.md R127, R131; 43_group3_short_arith_fast_indirect.md R166,
R174). -/

namespace Sys2Proof.Machine

/-! ### What the instructions mean -/

theorem exec_f13_1 (x : IndexSpec) (n : AddressBits) (s : State) : exec (.f13_1 x n) s =
    withOperand .main (modifiedN s x n) s fun v => .next (s.setA v) := rfl

theorem exec_f33_0 (x : IndexSpec) (n : AddressBits) (s : State) : exec (.f33_0 x n) s =
    withOperand .fast (modifiedN s x n) s fun v => .next (s.setA v) := rfl

theorem exec_f17_1 (x : IndexSpec) (n : AddressBits) (s : State) : exec (.f17_1 x n) s =
    storeOperand .main (modifiedN s x n) s.a s := rfl

theorem exec_f37_0 (x : IndexSpec) (n : AddressBits) (s : State) : exec (.f37_0 x n) s =
    storeOperand .fast (modifiedN s x n) s.a s := rfl

end Sys2Proof.Machine

namespace Sys2Proof.Proofs
open Sys2Proof.Machine

/-- Settles O24: both functions put the operand word into A alone, in the main and in the fast form. -/
theorem accumulatorLoadsAStoreWord : Obligations.AccumulatorLoadsAStoreWord := by
  intro x n s
  constructor
  · exact atOperand_of_withOperand (exec_f13_1 x n s) fun _ hnext => hnext
  · exact atOperand_of_withOperand (exec_f33_0 x n s) fun _ hnext => hnext

/-- Settles O27: both functions write a to the operand location without reading it, so the read-after-write
of the stores gives the statement in either form. -/
theorem accumulatorStores : Obligations.AccumulatorStores := by
  intro x n s hwf
  constructor
  · exact atOperand_of_storeOperand hwf (exec_f17_1 x n s)
  · exact atOperand_of_storeOperand hwf (exec_f37_0 x n s)

end Sys2Proof.Proofs
end

section
/-! PROOFS. Group 4, transfers of control (44_group4_transfer_control.md R180 to R189): what the instructions
mean, the conditions of the jumps, and the overflow marker they leave. -/

namespace Sys2Proof.Machine

/-! ### What the instructions mean -/

theorem exec_f40 (m : Bool) (x : IndexSpec) (n : AddressBits) (s : State) : exec (.f40 m x n) s =
    namingIndex x (if s.b.get x ≠ 0 then .next ((s.setB x (s.b.get x + 1)).jump m (plainN n)) else .next s) :=
  rfl

theorem exec_f41 (m : Bool) (x : IndexSpec) (n : AddressBits) (s : State) : exec (.f41 m x n) s =
    namingIndex x (if s.b.get x ≠ 0 then .next ((s.setB x (s.b.get x - 1)).jump m (plainN n)) else .next s) :=
  rfl

theorem exec_f42 (m : Bool) (x : IndexSpec) (n : AddressBits) (s : State) : exec (.f42 m x n) s =
    namingIndex x (if s.b.get x = 0 then .next (s.jump m (plainN n)) else .next s) := rfl

theorem exec_f43 (m : Bool) (x : IndexSpec) (n : AddressBits) (s : State) : exec (.f43 m x n) s =
    namingIndex x (.next ((s.setB x s.link).jump m (plainN n))) := rfl

theorem exec_f44 (m : Bool) (x : IndexSpec) (n : AddressBits) (s : State) : exec (.f44 m x n) s =
    if 0 ≤ s.a.toInt then .next (s.jump m (modifiedN s x n)) else .next s := rfl

theorem exec_f45 (m : Bool) (x : IndexSpec) (n : AddressBits) (s : State) : exec (.f45 m x n) s =
    if s.a.toInt < 0 then .next (s.jump m (modifiedN s x n)) else .next s := rfl

theorem exec_f46 (m : Bool) (x : IndexSpec) (n : AddressBits) (s : State) : exec (.f46 m x n) s =
    if s.a = 0 then .next (s.jump m (modifiedN s x n)) else .next s := rfl

theorem exec_f47 (m : Bool) (x : IndexSpec) (n : AddressBits) (s : State) : exec (.f47 m x n) s =
    if s.ovr = true then .next ((s.putOvr false).jump m (modifiedN s x n)) else .next (s.putOvr false) := rfl

/-! ### Jumps and their conditions -/

/-- The model's jump reaches the target the statements name (R188). -/
theorem jump_eq_jumped (s : State) (m : Bool) (nm : Word) : s.jump m nm = jumped s m nm := by
  rw [jumped, BitVec.ofNat_toNat]
  rfl

theorem word_eq_zero_iff (w : Word) : w = 0 ↔ w.toNat = 0 := BitVec.toNat_eq

/-- Bit 19 is the sign digit of a word (00_scope.md R6). -/
theorem toInt_neg_iff_getLsbD (w : Word) : w.toInt < 0 ↔ w.getLsbD 19 = true := by
  rw [← BitVec.msb_eq_getLsbD_last w, BitVec.msb_eq_toInt, decide_eq_true_iff]

theorem toInt_nonneg_iff_getLsbD (w : Word) : 0 ≤ w.toInt ↔ w.getLsbD 19 = false := by
  rw [← not_lt, toInt_neg_iff_getLsbD, Bool.not_eq_true]

theorem putOvr_eq_self {s : State} {v : Bool} (h : s.ovr = v) : s.putOvr v = s := by
  subst h
  rfl

theorem namingIndex_of_eq_zero {x : IndexSpec} (r : Result) (h : x = 0) :
    namingIndex x r = .refused .noIndexRegisterNamed := if_pos h

/-! ### The overflow marker -/

/-- A conditional transfer ends in its target or where it began. -/
theorem transfer_next {c : Prop} [Decidable c] {s t u : State}
    (h : (if c then .next u else .next s : Result) = .next t) : t = u ∨ t = s := by
  split at h
  · exact .inl (Host.Outcome.next.inj h).symm
  · exact .inr (Host.Outcome.next.inj h).symm

/-- So it leaves the marker, where the target has the marker of the start. -/
theorem ovr_of_transfer_next {c : Prop} [Decidable c] {s t u : State}
    (h : (if c then .next u else .next s : Result) = .next t) (hu : u.ovr = s.ovr) : t.ovr = s.ovr := by
  obtain rfl | rfl := transfer_next h
  · exact hu
  · rfl

/-- A counting jump with b not 0 completes whatever word `w` it puts into B[X], and leaves the marker. -/
theorem countingJump_completes (m : Bool) {x : IndexSpec} (n : AddressBits) {s : State} (w : Word)
    (hx : x ≠ 0) (hb : s.b.get x ≠ 0) : ∃ t,
    namingIndex x (if s.b.get x ≠ 0 then .next ((s.setB x w).jump m (plainN n)) else .next s) = .next t ∧
      t.b.get x = w ∧ t.ovr = s.ovr :=
  ⟨_, (namingIndex_of_ne _ hx).trans (if_pos hb), IndexRegs.get_set_same _ _ _ hx, rfl⟩

theorem exec_f40_counts (m : Bool) {x : IndexSpec} (n : AddressBits) {s : State} {v : Word} (hx : x ≠ 0)
    (hget : s.b.get x = v) (hv : v ≠ 0) :
    ∃ t, exec (.f40 m x n) s = .next t ∧ t.b.get x = v + 1 ∧ t.ovr = s.ovr := by
  subst hget
  exact countingJump_completes m n _ hx hv

theorem exec_f41_counts (m : Bool) {x : IndexSpec} (n : AddressBits) {s : State} {v : Word} (hx : x ≠ 0)
    (hget : s.b.get x = v) (hv : v ≠ 0) :
    ∃ t, exec (.f41 m x n) s = .next t ∧ t.b.get x = v - 1 ∧ t.ovr = s.ovr := by
  subst hget
  exact countingJump_completes m n _ hx hv

/-- The marker is clear on both paths of 47 (R187). -/
theorem exec_f47_clears (m : Bool) (x : IndexSpec) (n : AddressBits) (s : State) :
    ∃ t, exec (.f47 m x n) s = .next t ∧ t.ovr = false := by
  rw [exec_f47]
  split
  · exact ⟨_, rfl, rfl⟩
  · exact ⟨_, rfl, rfl⟩

end Sys2Proof.Machine

namespace Sys2Proof.Proofs
open Sys2Proof.Machine

/-- Settles O33: 40 to 46 end in a jump or where they began, and neither touches the marker; the three counts
at the ends of the range are sums of words, which wrap. -/
theorem groupFourNeverSetsTheMarker : Obligations.GroupFourNeverSetsTheMarker := by
  intro m x n s
  refine ⟨?_, exec_f47_clears m x n s, fun hx hb => exec_f40_counts m n hx hb (by decide),
    fun hx hb => exec_f40_counts m n hx hb (by decide), fun hx hb => exec_f41_counts m n hx hb (by decide)⟩
  rintro t (h40 | h41 | h42 | h43 | h44 | h45 | h46)
  · rw [exec_f40] at h40
    exact ovr_of_transfer_next (namingIndex_next h40).2 rfl
  · rw [exec_f41] at h41
    exact ovr_of_transfer_next (namingIndex_next h41).2 rfl
  · rw [exec_f42] at h42
    exact ovr_of_transfer_next (namingIndex_next h42).2 rfl
  · rw [exec_f43] at h43
    obtain ⟨-, hjump⟩ := namingIndex_next h43
    exact Host.Outcome.next.inj hjump ▸ rfl
  · rw [exec_f44] at h44
    exact ovr_of_transfer_next h44 rfl
  · rw [exec_f45] at h45
    exact ovr_of_transfer_next h45 rfl
  · rw [exec_f46] at h46
    exact ovr_of_transfer_next h46 rfl

/-- Settles O29: the refusal of X = 0, and the test of b as a number. -/
theorem jumpIfIndexRegisterZero : Obligations.JumpIfIndexRegisterZero := by
  intro m x n s
  by_cases hx : x = 0
  · rw [if_pos hx, exec_f42, namingIndex_of_eq_zero _ hx]
  · rw [if_neg hx, exec_f42, namingIndex_of_ne _ hx, jump_eq_jumped]
    simp only [word_eq_zero_iff]
    split_ifs with hzero
    · rfl
    · rfl

/-- Settles O31: the three tests of A, and the sign digit that divides 44 from 45. -/
theorem jumpsOnTheAccumulator : Obligations.JumpsOnTheAccumulator := by
  intro m x n s
  rw [exec_f44, exec_f45, exec_f46, jump_eq_jumped]
  exact ⟨rfl, rfl, if_congr (word_eq_zero_iff s.a) rfl rfl, toInt_nonneg_iff_getLsbD s.a,
    toInt_neg_iff_getLsbD s.a⟩

/-- Settles O32: a marker that was clear already makes clearing it no change. -/
theorem testOverflowClearsTheMarker : Obligations.TestOverflowClearsTheMarker := by
  intro m x n s
  rw [exec_f47, jump_eq_jumped]
  split_ifs with hset
  · rfl
  · rw [putOvr_eq_self (Bool.not_eq_true _ ▸ hset)]

end Sys2Proof.Proofs
end

section
/-! PROOFS. Store operands read and written back (20_memory.md R43, R44): the statement `AtOperand` makes of an
instruction that puts a function of the operand word into the location the word came from. -/

namespace Sys2Proof.Machine

theorem loadWord_storeWord_of_hasLoc {l : Loc} {s : State} (f : Word → Word) (h : s.hasLoc l = true) :
    (loadWord l s fun v => storeWord l (f v) s) = .next (s.poke l (f (s.peek l))) :=
  (loadWord_of_hasLoc _ h).trans (storeWord_of_hasLoc _ h)

/-- The read checks the location before the write does, and the written word is a function of the word read
there. -/
theorem atOperand_of_updateOperand {i : Instr} {form : Form} {nm : Word} {s : State} {f : Word → Word}
    (hwf : s.storesWf) (hexec : exec i s = updateOperand form nm s f) :
    AtOperand i form nm s (fun l => StoresWord i s l (f (s.peek l))) :=
  atOperand_of_locate hexec (fun _ => loadWord_of_not_hasLoc _)
    fun _ hloc hat => storesWord_of_poke hwf (hat.trans (loadWord_storeWord_of_hasLoc f hloc))

end Sys2Proof.Machine
end

section
/-! PROOFS. Group 5, the collations (45_group5_miscellaneous.md R202, R203, R210, R211): 52 to the Accumulator
and 56 to the store. -/

namespace Sys2Proof.Machine

/-! ### What the instructions mean -/

theorem exec_f52_0 (x : IndexSpec) (n : AddressBits) (s : State) : exec (.f52_0 x n) s =
    withOperand .fast (modifiedN s x n) s fun v => .next (s.setA (s.a &&& v)) := rfl

theorem exec_f52_1 (x : IndexSpec) (n : AddressBits) (s : State) : exec (.f52_1 x n) s =
    withOperand .main (modifiedN s x n) s fun v => .next (s.setA (s.a &&& v)) := rfl

theorem exec_f56_0 (x : IndexSpec) (n : AddressBits) (s : State) : exec (.f56_0 x n) s =
    updateOperand .fast (modifiedN s x n) s fun v => s.a &&& v := rfl

theorem exec_f56_1 (x : IndexSpec) (n : AddressBits) (s : State) : exec (.f56_1 x n) s =
    updateOperand .main (modifiedN s x n) s fun v => s.a &&& v := rfl

end Sys2Proof.Machine

namespace Sys2Proof.Proofs
open Sys2Proof.Machine

/-- Settles O38: the word that 52 puts into A is the conjunction of the two words, so each of its bits is the
conjunction of theirs, in the fast and in the main form. -/
theorem collateToA : Obligations.CollateToA := by
  intro x n s
  constructor
  · exact atOperand_of_withOperand (exec_f52_0 x n s) fun l hnext =>
      ⟨s.a &&& s.peek l, hnext, fun _ _ => BitVec.getLsbD_and⟩
  · exact atOperand_of_withOperand (exec_f52_1 x n s) fun l hnext =>
      ⟨s.a &&& s.peek l, hnext, fun _ _ => BitVec.getLsbD_and⟩

/-- Settles O39: 56 reads the operand location and writes the conjunction back to it, so the read-after-write
of the stores gives the statement in either form. -/
theorem collateToStore : Obligations.CollateToStore := by
  intro x n s hwf
  constructor
  · exact atOperand_of_updateOperand hwf (exec_f56_0 x n s)
  · exact atOperand_of_updateOperand hwf (exec_f56_1 x n s)

end Sys2Proof.Proofs
end

section
/-! PROOFS. Group 7, the command to a peripheral controller (47_group7_peripheral.md R242): what 74 means and
what a command leaves in the state. -/

namespace Sys2Proof.Machine

/-- A command is one event at the end of the history; no other field is written (R242, R247). -/
theorem State.command_eq_append_devCmd (s : State) (dev : Device) :
    s.command dev = { s with events := s.events ++ [.devCmd dev.e dev.d dev.p] } := rfl

theorem exec_f74 (m : Bool) (x : IndexSpec) (n : AddressBits) (s : State) :
    exec (.f74 m x n) s = .next (s.command (deviceOf (modifiedN s x n))) := rfl

end Sys2Proof.Machine

namespace Sys2Proof.Proofs
open Sys2Proof.Machine

/-- Settles O53: 74 is the command to the device that the modified address names, its mode bit having no part
in it, and a command only appends its event. -/
theorem commandRecordsThePBits : Obligations.CommandRecordsThePBits := by
  intro m x n s
  rw [exec_f74, State.command_eq_append_devCmd]

end Sys2Proof.Proofs
end

section
/-! PROOFS. What an instruction can answer, and what it can change where it completes: one case for each way
the functions of the table write the state (10_state.md R20 to R29, R37; 30_encoding.md R69, R71, R72). -/

namespace Sys2Proof.Machine

/-! ### The marker an instruction may leave -/

/-- `o` is the marker of `s`, or a marker that `i`, which may write it, has raised and not cleared. -/
def MarkerKept (i : Instr) (s : State) (o : Bool) : Prop :=
  (s.ovr = true → o = true) ∧ (writesOvr i = false → o = s.ovr)

theorem MarkerKept.same (i : Instr) (s : State) : MarkerKept i s s.ovr := ⟨id, fun _ => rfl⟩

theorem MarkerKept.raise {i : Instr} {s : State} (hi : writesOvr i = true) (outside : Bool) :
    MarkerKept i s (s.ovr || outside) :=
  ⟨fun h => by rw [h, Bool.true_or], fun h => absurd hi (by rw [h]; decide)⟩

theorem MarkerKept.set {i : Instr} {s : State} (hi : writesOvr i = true) : MarkerKept i s true :=
  ⟨fun _ => rfl, fun h => absurd hi (by rw [h]; decide)⟩

/-! ### What an instruction can change -/

/-- The states `i` can leave when it completes at `s`, by what it writes. -/
inductive Effect (i : Instr) (s : State) : State → Prop where
  /-- A, and perhaps the marker. -/
  | accumulator (w : Word) (o : Bool) (hquiet : emitsEvent i = false) (ha : writesA i = true)
      (ho : MarkerKept i s o) : Effect i s ((s.putOvr o).setA w)
  /-- B[X], and perhaps the marker. -/
  | index (w : Word) (o : Bool) (hquiet : emitsEvent i = false) (hb : writesB i = true)
      (ho : MarkerKept i s o) : Effect i s ((s.putOvr o).setB i.indexSpec w)
  /-- R alone. -/
  | auxiliary (w : Word) (hquiet : emitsEvent i = false) (hr : writesR i = true) : Effect i s (s.setR w)
  /-- A and R, perhaps the marker, and some unspecified words used. -/
  | long (a r : Word) (o : Bool) (k : Nat) (hquiet : emitsEvent i = false) (ha : writesA i = true)
      (hr : writesR i = true) (ho : MarkerKept i s o) (hk : takesFreeValue i = false → k = 0) :
      Effect i s ((((s.putOvr o).setR r).setA a).spendFree k)
  /-- The operand location, and perhaps the marker. -/
  | store (l : Loc) (w : Word) (o : Bool) (hquiet : emitsEvent i = false) (hl : storedTo s i = some l)
      (hloc : s.hasLoc l = true) (ho : MarkerKept i s o) : Effect i s ((s.putOvr o).poke l w)
  /-- S, where a transfer not taken writes S as it was. -/
  | transfer (f : StoreName) (k : Address) (hquiet : emitsEvent i = false) (hs : writesS i = true) :
      Effect i s (s.setS f k)
  /-- B[X] and S. -/
  | linkedTransfer (w : Word) (f : StoreName) (k : Address) (hquiet : emitsEvent i = false)
      (hb : writesB i = true) (hs : writesS i = true) : Effect i s ((s.setB i.indexSpec w).setS f k)
  /-- The marker cleared, and S. -/
  | testOverflow (m : Bool) (x : IndexSpec) (n : AddressBits) (f : StoreName) (k : Address)
      (h47 : i = .f47 m x n) : Effect i s ((s.putOvr false).setS f k)
  /-- One event. -/
  | record (e : Event) (he : emitsEvent i = true) : Effect i s (s.emit e)
  /-- A word drawn from a device, A, and perhaps the marker. -/
  | draw (dev : Device) (w : Word) (o : Bool) (he : emitsEvent i = true) (ha : writesA i = true)
      (hk : takesFreeValue i = true) (ho : MarkerKept i s o) :
      Effect i s (((s.drawFrom dev).putOvr o).setA w)
  /-- A program break. -/
  | programBreak (f : StoreName) (k : Address) (he : emitsEvent i = true) (hs : writesS i = true) :
      Effect i s (s.programBreak f k)

/-- What `i` can answer at `s`: it completes, a location does not exist, or one of the two refusals of R77. -/
inductive Answer (i : Instr) (s : State) : Result → Prop where
  | completes {t : State} (h : Effect i s t) : Answer i s (.next t)
  | outOfRange (l : Loc) : Answer i s (.fault (.addressOutOfRange l))
  | namesNone (h : i.namesIndexRegister = false) : Answer i s (.refused .noIndexRegisterNamed)
  | notAllocated (f : FunctionCode) (m : Bool) (h : i.allocated = false) :
      Answer i s (.refused (.unallocated f m))

theorem Answer.effect {i : Instr} {s t : State} (h : Answer i s (.next t)) : Effect i s t := by
  cases h with
  | completes h => exact h

section
variable {i : Instr} {s : State}

/-! ### The shared operations answer so -/

theorem Answer.namingIndex {x : IndexSpec} {r : Result} (hb : i.bNaming = true) (hx : i.indexSpec = x)
    (hr : Answer i s r) : Answer i s (namingIndex x r) := by
  unfold Machine.namingIndex
  split
  · next h0 => exact .namesNone (by rw [Instr.namesIndexRegister, hb, hx, h0]; rfl)
  · exact hr

theorem Answer.ite {c : Prop} [Decidable c] {r r' : Result} (hr : Answer i s r) (hr' : Answer i s r') :
    Answer i s (if c then r else r') := by
  split
  · exact hr
  · exact hr'

theorem Answer.loadWord {l : Loc} {next : Word → Result}
    (h : s.hasLoc l = true → Answer i s (next (s.peek l))) : Answer i s (loadWord l s next) := by
  unfold Machine.loadWord
  split
  · next hloc => exact h hloc
  · exact .outOfRange l

theorem Answer.locate {form : Form} {nm : Word} {next : Loc → Result}
    (h : Answer i s (next (location form nm s))) : Answer i s (locate form nm s next) := by
  unfold Machine.locate
  split
  · exact h
  · exact .outOfRange _

theorem Answer.withOperand {form : Form} {nm : Word} {next : Word → Result}
    (h : ∀ v, Answer i s (next v)) : Answer i s (withOperand form nm s next) :=
  .locate (.loadWord fun _ => h _)

theorem Answer.storeWord {l : Loc} (w : Word) {o : Bool} (hquiet : emitsEvent i = false)
    (hl : storedTo s i = some l) (ho : MarkerKept i s o) : Answer i s (storeWord l w (s.putOvr o)) := by
  unfold Machine.storeWord
  split
  · next hloc => exact .completes (.store l w o hquiet hl hloc ho)
  · exact .outOfRange l

theorem Answer.storeOperand {form : Form} {nm w : Word} (hquiet : emitsEvent i = false)
    (hl : storedTo s i = some (location form nm s)) : Answer i s (storeOperand form nm w s) :=
  .locate (.storeWord w hquiet hl (.same i s))

theorem Answer.updateOperand {form : Form} {nm : Word} {f : Word → Word} (hquiet : emitsEvent i = false)
    (hl : storedTo s i = some (location form nm s)) : Answer i s (updateOperand form nm s f) :=
  .locate (.loadWord fun _ => .storeWord _ hquiet hl (.same i s))

theorem Answer.sumToOperand {form : Form} {nm : Word} {f : Int → Int} (hquiet : emitsEvent i = false)
    (hl : storedTo s i = some (location form nm s)) (ho : writesOvr i = true) :
    Answer i s (sumToOperand form nm s f) :=
  .locate (.loadWord fun _ => .storeWord _ hquiet hl (.raise ho _))

theorem Answer.sumToA {z : Int} (hquiet : emitsEvent i = false) (ha : writesA i = true)
    (ho : writesOvr i = true) : Answer i s (sumToA z s) :=
  .completes (.accumulator _ _ hquiet ha (.raise ho _))

theorem Answer.setA {w : Word} (hquiet : emitsEvent i = false) (ha : writesA i = true) :
    Answer i s (.next (s.setA w)) :=
  .completes (.accumulator w s.ovr hquiet ha (.same i s))

theorem Answer.sumToB {x : IndexSpec} {z : Int} (hx : i.indexSpec = x) (hquiet : emitsEvent i = false)
    (hb : writesB i = true) (ho : writesOvr i = true) : Answer i s (sumToB x z s) :=
  hx ▸ .completes (.index _ _ hquiet hb (.raise ho _))

theorem Answer.setB {x : IndexSpec} {w : Word} (hx : i.indexSpec = x) (hquiet : emitsEvent i = false)
    (hb : writesB i = true) : Answer i s (.next (s.setB x w)) :=
  hx ▸ .completes (.index w s.ovr hquiet hb (.same i s))

theorem Answer.setR {w : Word} (hquiet : emitsEvent i = false) (hr : writesR i = true) :
    Answer i s (.next (s.setR w)) :=
  .completes (.auxiliary w hquiet hr)

theorem Answer.jump {m : Bool} {nm : Word} (hquiet : emitsEvent i = false) (hs : writesS i = true) :
    Answer i s (.next (s.jump m nm)) :=
  .completes (.transfer _ _ hquiet hs)

theorem Answer.stay (hquiet : emitsEvent i = false) (hs : writesS i = true) : Answer i s (.next s) :=
  .completes (.transfer s.sf s.sa hquiet hs)

theorem Answer.setB_jump {x : IndexSpec} {w : Word} {m : Bool} {nm : Word} (hx : i.indexSpec = x)
    (hquiet : emitsEvent i = false) (hb : writesB i = true) (hs : writesS i = true) :
    Answer i s (.next ((s.setB x w).jump m nm)) :=
  hx ▸ .completes (.linkedTransfer w _ _ hquiet hb hs)

theorem Answer.setAR (z : Int) {o : Bool} (hquiet : emitsEvent i = false) (ha : writesA i = true)
    (hr : writesR i = true) (ho : MarkerKept i s o) : Answer i s (.next ((s.putOvr o).setAR z)) :=
  .completes (.long (s.setAR z).a (s.setAR z).r o 0 hquiet ha hr ho fun _ => rfl)

theorem Answer.multiplyRounded {v : Word} (hquiet : emitsEvent i = false) (ha : writesA i = true)
    (hr : writesR i = true) (ho : writesOvr i = true) : Answer i s (multiplyRounded v s) :=
  .completes (.long _ 0 _ 0 hquiet ha hr (.raise ho _) fun _ => rfl)

theorem Answer.squareRoot {v : Int} (hquiet : emitsEvent i = false) (ha : writesA i = true)
    (hr : writesR i = true) (ho : writesOvr i = true) (hk : takesFreeValue i = true) :
    Answer i s (squareRoot v s) := by
  obtain ⟨a, k, h⟩ := squareRoot_next v s
  rw [h]
  exact .completes (.long a 0 _ k hquiet ha hr (.raise ho _) fun hk' => absurd hk (by rw [hk']; decide))

theorem Answer.divideWithRemainder {v : Word} (hquiet : emitsEvent i = false) (ha : writesA i = true)
    (hr : writesR i = true) (ho : writesOvr i = true) (hk : takesFreeValue i = true) :
    Answer i s (divideWithRemainder v s) := by
  have hfree : ∀ k, takesFreeValue i = false → k = 0 := fun _ hk' => absurd hk (by rw [hk']; decide)
  exact .ite (.completes (.long _ _ true 2 hquiet ha hr (.set ho) (hfree 2)))
    (.ite (.completes (.long _ _ s.ovr 0 hquiet ha hr (.same i s) (hfree 0)))
      (.completes (.long _ _ true 2 hquiet ha hr (.set ho) (hfree 2))))

theorem Answer.divideRounded {v : Word} (hquiet : emitsEvent i = false) (ha : writesA i = true)
    (hr : writesR i = true) (ho : writesOvr i = true) (hk : takesFreeValue i = true) :
    Answer i s (divideRounded v s) := by
  have hfree : ∀ k, takesFreeValue i = false → k = 0 := fun _ hk' => absurd hk (by rw [hk']; decide)
  exact .ite (.completes (.long _ 0 true 1 hquiet ha hr (.set ho) (hfree 1)))
    (.ite (.completes (.long _ 0 s.ovr 0 hquiet ha hr (.same i s) (hfree 0)))
      (.completes (.long _ 0 true 1 hquiet ha hr (.set ho) (hfree 1))))

end

/-! ### Every instruction answers so -/

/-- One line for each shape of a meaning; the `rfl`s read the lists of 10_state.md, which name the functions. -/
theorem exec_answer (i : Instr) (s : State) : Answer i s (exec i s) := by
  unfold exec
  cases i with
  | f04_0 | f05_0 | f06_0 | f07_0 | f14_0 | f15_0 | f16_0 | f17_0 | f71 | f72 | f75 =>
    exact .notAllocated _ _ rfl
  | f00_0 | f01_0 | f02_0 => exact .namingIndex rfl rfl (.sumToB rfl rfl rfl rfl)
  | f00_1 | f01_1 | f02_1 | f20_0 | f20_1 | f21_0 | f21_1 | f22_0 | f22_1 =>
    exact .namingIndex rfl rfl (.withOperand fun _ => .sumToB rfl rfl rfl rfl)
  | f03_0 => exact .namingIndex rfl rfl (.setB rfl rfl rfl)
  | f03_1 | f23_0 | f23_1 => exact .namingIndex rfl rfl (.withOperand fun _ => .setB rfl rfl rfl)
  | f04_1 | f05_1 | f06_1 | f24_0 | f24_1 | f25_0 | f25_1 | f26_0 | f26_1 =>
    exact .namingIndex rfl rfl (.sumToOperand rfl rfl rfl)
  | f07_1 | f27_0 | f27_1 => exact .namingIndex rfl rfl (.storeOperand rfl rfl)
  | f10_0 | f11_0 | f12_0 | f61 => exact .sumToA rfl rfl rfl
  | f10_1 | f11_1 | f12_1 | f30_0 | f30_1 | f31_0 | f31_1 | f32_0 | f32_1 =>
    exact .withOperand fun _ => .sumToA rfl rfl rfl
  | f13_0 | f60 => exact .setA rfl rfl
  | f13_1 | f33_0 | f33_1 | f52_0 | f52_1 => exact .withOperand fun _ => .setA rfl rfl
  | f14_1 | f15_1 | f16_1 | f34_0 | f34_1 | f35_0 | f35_1 | f36_0 | f36_1 =>
    exact .sumToOperand rfl rfl rfl
  | f17_1 | f37_0 | f37_1 | f57_0 | f57_1 => exact .storeOperand rfl rfl
  | f40 | f41 => exact .namingIndex rfl rfl (.ite (.setB_jump rfl rfl rfl rfl) (.stay rfl rfl))
  | f42 => exact .namingIndex rfl rfl (.ite (.jump rfl rfl) (.stay rfl rfl))
  | f43 => exact .namingIndex rfl rfl (.setB_jump rfl rfl rfl rfl)
  | f44 | f45 | f46 => exact .ite (.jump rfl rfl) (.stay rfl rfl)
  | f47 m x n =>
    exact .ite (.completes (.testOverflow m x n _ _ rfl)) (.completes (.testOverflow m x n s.sf s.sa rfl))
  | f50 | f51 => exact .jump rfl rfl
  | f53_0 | f53_1 => exact .withOperand fun _ => .setR rfl rfl
  | f54_0 | f54_1 | f55_0 | f55_1 | f56_0 | f56_1 => exact .updateOperand rfl rfl
  | f62 => exact .setAR _ rfl rfl rfl (.raise rfl _)
  | f63_0 | f63_1 => exact .withOperand fun _ => .squareRoot rfl rfl rfl rfl rfl
  | f64_0 | f64_1 => exact .withOperand fun _ => .setAR _ rfl rfl rfl (.raise rfl _)
  | f65_0 | f65_1 => exact .withOperand fun _ => .multiplyRounded rfl rfl rfl rfl
  | f66_0 | f66_1 => exact .withOperand fun _ => .divideWithRemainder rfl rfl rfl rfl rfl
  | f67_0 | f67_1 => exact .withOperand fun _ => .divideRounded rfl rfl rfl rfl rfl
  | f70 => exact .completes (.draw _ _ _ rfl rfl rfl (.raise rfl _))
  | f73 => exact .completes (.draw _ _ s.ovr rfl rfl rfl (.same _ s))
  | f74 | f77 => exact .completes (.record _ rfl)
  | f76 => exact .completes (.programBreak _ _ rfl rfl)

theorem exec_effect {i : Instr} {s t : State} (h : exec i s = .next t) : Effect i s t :=
  (h ▸ exec_answer i s : Answer i s (.next t)).effect

end Sys2Proof.Machine
end

section
/-! PROOFS. What follows from the effects of the instructions: the frame of every instruction, the sticky
marker, the growing history and the invariant (10_state.md R20 to R29; 47_group7_peripheral.md R243, R247;
60_exceptions.md R260). -/

namespace Sys2Proof.Machine

/-! ### Nothing but a store changes what a location reads as -/

@[simp] theorem State.peek_putOvr (s : State) (o : Bool) (l : Loc) : (s.putOvr o).peek l = s.peek l := rfl
@[simp] theorem State.peek_setA (s : State) (v : Word) (l : Loc) : (s.setA v).peek l = s.peek l := rfl
@[simp] theorem State.peek_setR (s : State) (v : Word) (l : Loc) : (s.setR v).peek l = s.peek l := rfl
@[simp] theorem State.peek_setB (s : State) (x : IndexSpec) (v : Word) (l : Loc) :
    (s.setB x v).peek l = s.peek l := rfl
@[simp] theorem State.peek_setS (s : State) (f : StoreName) (k : Address) (l : Loc) :
    (s.setS f k).peek l = s.peek l := rfl
@[simp] theorem State.peek_spendFree (s : State) (k : Nat) (l : Loc) :
    (s.spendFree k).peek l = s.peek l := rfl
@[simp] theorem State.peek_emit (s : State) (e : Event) (l : Loc) : (s.emit e).peek l = s.peek l := rfl
@[simp] theorem State.peek_drawFrom (s : State) (dev : Device) (l : Loc) :
    (s.drawFrom dev).peek l = s.peek l := rfl
@[simp] theorem State.peek_programBreak (s : State) (f : StoreName) (k : Address) (l : Loc) :
    (s.programBreak f k).peek l = s.peek l := rfl

/-! ### The marker and the history of an effect -/

section
variable {i : Instr} {s t : State}

/-- The marker is sticky (R29, decision D9): 47 alone leaves it clear where it was set. -/
theorem Effect.marker (h : Effect i s t) (hset : s.ovr = true) :
    t.ovr = true ∨ ∃ m x n, i = .f47 m x n := by
  cases h with
  | accumulator w o _ _ ho | index w o _ _ ho | long a r o k _ _ _ ho | store l w o _ _ _ ho
  | draw dev w o _ _ _ ho => exact .inl (ho.1 hset)
  | auxiliary | transfer | linkedTransfer | record | programBreak => exact .inl hset
  | testOverflow m x n f k h47 => exact .inr ⟨m, x, n, h47⟩

/-- The functions of R247 record one event, the others none. -/
theorem Effect.events (h : Effect i s t) :
    ∃ es, t.events = s.events ++ es ∧ es.length = if emitsEvent i then 1 else 0 := by
  cases h with
  | accumulator _ _ hquiet | index _ _ hquiet | auxiliary _ hquiet | long _ _ _ _ hquiet
  | store _ _ _ hquiet | transfer _ _ hquiet | linkedTransfer _ _ _ hquiet =>
    exact ⟨[], (List.append_nil _).symm, by rw [hquiet]; rfl⟩
  | testOverflow m x n f k h47 => exact ⟨[], (List.append_nil _).symm, by rw [h47]; rfl⟩
  | record e he | draw dev w o he | programBreak f k he => exact ⟨[_], rfl, by rw [he]; rfl⟩

end

/-! ### Steps -/

/-- What a step that answers `next` is: the effect of the instruction at S, of a state with S advanced, in a
run that is neither refused nor ended (R27, R243, R260). -/
theorem step_effect {s t : State} (h : step s = .next t) : s.ended = false ∧
    Effect (decode (s.peek s.here)) (s.setS s.sf (s.sa + 1)) t := by
  obtain ⟨-, hended, hfetch⟩ := whenRunning_next h
  obtain ⟨-, -, hexec⟩ := fetch_next hfetch
  exact ⟨hended, exec_effect hexec⟩

/-- A recorded step is the step's next state, or leaves all but the Refused mark (R260). -/
theorem recordStep_cases (s : State) :
    step s = .next (recordStep s) ∨ ∃ mark, recordStep s = { s with refusedMark := mark } := by
  unfold recordStep
  split
  · next t h => exact .inl h
  · exact .inr ⟨s.refusedMark, rfl⟩
  · next l h => exact .inr ⟨some (.fault (.addressOutOfRange l)), rfl⟩
  · next r h => exact .inr ⟨some (.refusal r), rfl⟩

/-- The history before a recorded step begins the history after it. -/
theorem events_recordStep (s : State) : s.events <+: (recordStep s).events := by
  rcases recordStep_cases s with h | ⟨mark, h⟩
  · obtain ⟨es, hes, -⟩ := (step_effect h).2.events
    exact ⟨es, hes.symm⟩
  · rw [h]

theorem events_runSteps (k : Nat) (s : State) : s.events <+: (runSteps k s).events := by
  induction k generalizing s with
  | zero => exact ⟨[], List.append_nil _⟩
  | succ k ih => exact (events_recordStep s).trans (ih (recordStep s))

/-! ### The invariant -/

/-- A write to a location that exists keeps a store inside its size. -/
theorem Memory.inside_write {mem : Memory} {k size : Nat} (v : Word) (h : ∀ p ∈ mem, p.1 < size)
    (hk : k < size) : ∀ p ∈ Memory.write mem k v, p.1 < size := by
  intro p hp
  rcases Memory.mem_write mem k v p hp with hp | ⟨rfl, -⟩
  · exact h p hp
  · exact hk

section
variable {s t : State}

/-- A run that has not ended owes no re-entry point. -/
theorem State.reentry_of_running (h : t.ended = false) :
    t.ended = true → ∃ before, t.events = before ++ [.programBreak t.sf t.sa] :=
  fun he => absurd (h.symm.trans he) Bool.false_ne_true

/-- The clauses on the stores depend on nothing but the stores and their sizes. -/
theorem State.Inv.of_stores_eq (h : s.Inv) (hfs : t.fs = s.fs) (hms : t.ms = s.ms)
    (hfast : t.fastSize = s.fastSize) (hmain : t.mainSize = s.mainSize)
    (hended : t.ended = true → ∃ before, t.events = before ++ [.programBreak t.sf t.sa]) : t.Inv where
  fs_wf := hfs ▸ h.fs_wf
  ms_wf := hms ▸ h.ms_wf
  fs_inside := by rw [hfs, hfast]; exact h.fs_inside
  ms_inside := by rw [hms, hmain]; exact h.ms_inside
  fastSize_range := hfast ▸ h.fastSize_range
  mainSize_range := hmain ▸ h.mainSize_range
  ended_reentry := hended

theorem State.Inv.poke {l : Loc} (h : s.Inv) (w : Word) (hloc : s.hasLoc l = true)
    (hrunning : s.ended = false) : (s.poke l w).Inv := by
  obtain ⟨st, k⟩ := l
  have hk := (hasLoc_iff s _).1 hloc
  cases st with
  | fast => exact { h with
      fs_wf := Memory.wf_write s.fs k w h.fs_wf
      fs_inside := Memory.inside_write w h.fs_inside hk
      ended_reentry := State.reentry_of_running hrunning }
  | main => exact { h with
      ms_wf := Memory.wf_write s.ms k w h.ms_wf
      ms_inside := Memory.inside_write w h.ms_inside hk
      ended_reentry := State.reentry_of_running hrunning }

/-- Every effect on a run that has not ended keeps the invariant: a store by its write, the others because
they leave the stores, and the program break by its event. -/
theorem Effect.inv {i : Instr} (h : Effect i s t) (hs : s.Inv) (hrunning : s.ended = false) : t.Inv := by
  cases h with
  | store l w o _ _ hloc =>
    have hmarked : (s.putOvr o).Inv := hs.of_stores_eq rfl rfl rfl rfl (State.reentry_of_running hrunning)
    exact hmarked.poke w hloc hrunning
  | programBreak f k => exact hs.of_stores_eq rfl rfl rfl rfl fun _ => ⟨s.events, rfl⟩
  | accumulator | index | auxiliary | long | transfer | linkedTransfer | testOverflow | record | draw =>
    exact hs.of_stores_eq rfl rfl rfl rfl (State.reentry_of_running hrunning)

end

end Sys2Proof.Machine

namespace Sys2Proof.Proofs
open Sys2Proof.Machine

/-- Settles O12: fetching and advancing S keep the invariant of a run that has not ended, and so does the
effect of the instruction that is then run. -/
theorem stepKeepsTheInvariant : Obligations.StepKeepsTheInvariant := by
  intro s t hs hstep
  obtain ⟨hrunning, heffect⟩ := step_effect hstep
  exact heffect.inv (hs.of_stores_eq rfl rfl rfl rfl (State.reentry_of_running hrunning)) hrunning

/-- Settles O13: each effect against the lists of 10_state.md; what it writes, the list of that piece of state
names. -/
theorem everyInstructionKeepsItsFrame : Obligations.EveryInstructionKeepsItsFrame := by
  intro i s t h
  have hother : ∀ w k, k ≠ i.indexSpec → (s.b.set i.indexSpec w).get k = s.b.get k :=
    fun w k => IndexRegs.get_set_other s.b _ k w
  cases exec_effect h with
  | accumulator w o hquiet ha ho => simpa [ha] using ho.2
  | index w o hquiet hb ho => simpa [hb] using ⟨hother w, ho.2⟩
  | auxiliary w hquiet hr => simp [hr]
  | long a r o k hquiet ha hr ho hk => simpa [ha, hr] using ⟨ho.2, hk⟩
  | store l w o hquiet hl hloc ho =>
    simpa [hl] using ⟨ho.2, fun l' hne => State.peek_poke_other _ _ _ _ (Ne.symm hne)⟩
  | transfer f k hquiet hs => simp [hs]
  | linkedTransfer w f k hquiet hb hs => simpa [hb, hs] using hother w
  | testOverflow m x n f k h47 => simp [h47, writesOvr, writesS]
  | record e he => simp [he]
  | draw dev w o he ha hk ho => simpa [he, ha, hk] using ho.2
  | programBreak f k he hs => simp [he, hs]

/-- Settles O14: every other effect leaves a set marker set. -/
theorem onlyFunction47ClearsTheMarker : Obligations.OnlyFunction47ClearsTheMarker := by
  intro i s t h hset hclear
  exact ((exec_effect h).marker hset).resolve_left (by simp [hclear])

/-- Settles O15: one event or none for each completed instruction, and so a history that no recorded step
takes anything from. -/
theorem historyOnlyGrows : Obligations.HistoryOnlyGrows :=
  ⟨fun _ _ _ h => (exec_effect h).events, events_runSteps⟩

end Sys2Proof.Proofs
end

section
/-! PROOFS. Decoding and encoding, and the two refusals of the decoding procedure (30_encoding.md R61, R64, R70
to R72, R77): all of them by way of the fields of the word. -/

namespace Sys2Proof

/-! ### A word and its fields -/

theorem Fields.ext_toNat {f g : Fields} (hgroup : f.group.val = g.group.val)
    (hdigit : f.digit.val = g.digit.val) (hm : f.m.toNat = g.m.toNat) (hx : f.x.toNat = g.x.toNat)
    (hn : f.n.toNat = g.n.toNat) : f = g := by
  have hmode : f.m = g.m := by rw [Bool.eq_iff_iff, ← Bool.toNat_eq_one, ← Bool.toNat_eq_one, hm]
  obtain ⟨_, _, _, _, _⟩ := f
  obtain ⟨_, _, _, _, _⟩ := g
  exact (Fields.mk.injEq ..).mpr ⟨Fin.ext hgroup, Fin.ext hdigit, hmode, BitVec.eq_of_toNat_eq hx,
    BitVec.eq_of_toNat_eq hn⟩

theorem splitWord_joinWord (f : Fields) : splitWord (joinWord f) = f := by
  obtain ⟨hgroup, hdigit, hm, hx, hn⟩ := splitWord_toNat (joinWord f)
  rw [toNat_joinWord] at hgroup hdigit hm hx hn
  have := f.group.isLt; have := f.digit.isLt; have := f.m.toNat_lt; have := f.x.isLt; have := f.n.isLt
  apply Fields.ext_toNat <;> omega

theorem joinWord_splitWord (w : Word) : joinWord (splitWord w) = w := by
  obtain ⟨hgroup, hdigit, hm, hx, hn⟩ := splitWord_toNat w
  apply BitVec.eq_of_toNat_eq
  rw [toNat_joinWord]
  omega

/-! ### The table map of R70, both ways -/

theorem ofFields_toFields (i : Instr) : ofFields (toFields i) = i := by
  cases i <;> rfl

/-- No row is missing from the table and no two rows share their fields. -/
theorem toFields_ofFields (f : Fields) : toFields (ofFields f) = f := by
  obtain ⟨group, digit, m, x, n⟩ := f
  fin_cases group <;> fin_cases digit <;> cases m <;> rfl

theorem decode_joinWord (f : Fields) : decode (joinWord f) = ofFields f := by
  rw [decode, splitWord_joinWord]

theorem toFields_decode (w : Word) : toFields (decode w) = splitWord w := toFields_ofFields _

/-- The word the layout formula gives for octal digits `group` and `digit` decodes to the row of those digits. -/
theorem decode_wordOf (group digit : Fin 8) (m : Bool) (x : IndexSpec) (n : AddressBits) :
    decode (Machine.wordOf (group * 8 + digit) m.toNat x n) = ofFields ⟨group, digit, m, x, n⟩ := by
  rw [← decode_joinWord, joinWord, Machine.wordOf]
  simp only [Config.functionLow, Config.modeLow, Config.indexLow, Config.addressLow, pow_zero, mul_one]

/-! ### The function code and the checks of R77 -/

/-- The function code F of some fields as a number (R62). -/
def Fields.code (f : Fields) : Nat := f.group.val * 8 + f.digit.val

theorem codeOf_eq (w : Word) : Machine.codeOf w = (toFields (decode w)).code := by
  obtain ⟨hgroup, hdigit, -⟩ := splitWord_toNat w
  rw [toFields_decode, Fields.code, Machine.codeOf]
  omega

theorem modeOf_eq (w : Word) : Machine.modeOf w = (toFields (decode w)).m.toNat := by
  rw [toFields_decode]
  exact (splitWord_toNat w).2.2.1.symm

/-- The rows of R71 by code and mode bit. -/
theorem Instr.not_allocated_iff (i : Instr) : i.allocated = false ↔
    (toFields i).code ∈ [0o71, 0o72, 0o75] ∨
      ((toFields i).code ∈ [0o04, 0o05, 0o06, 0o07, 0o14, 0o15, 0o16, 0o17] ∧ (toFields i).m.toNat = 0) := by
  have htable : i.allocated = !(decide ((toFields i).code ∈ [0o71, 0o72, 0o75]) ||
      decide ((toFields i).code ∈ [0o04, 0o05, 0o06, 0o07, 0o14, 0o15, 0o16, 0o17]) && !(toFields i).m) := by
    cases i <;> rfl
  rw [htable, Bool.not_eq_false', Bool.or_eq_true, Bool.and_eq_true, decide_eq_true_iff, decide_eq_true_iff,
    Bool.not_eq_true', Bool.toNat_eq_zero]

/-- The B-naming functions of R64 by code. -/
theorem Instr.bNaming_iff (i : Instr) (h : i.allocated = true) : i.bNaming = true ↔
    (toFields i).code ≤ 0o07 ∨ (0o20 ≤ (toFields i).code ∧ (toFields i).code ≤ 0o27) ∨
      (0o40 ≤ (toFields i).code ∧ (toFields i).code ≤ 0o43) := by
  have htable : i.bNaming = (i.allocated && decide ((toFields i).code ≤ 0o07 ∨
      (0o20 ≤ (toFields i).code ∧ (toFields i).code ≤ 0o27) ∨
      (0o40 ≤ (toFields i).code ∧ (toFields i).code ≤ 0o43))) := by
    cases i <;> rfl
  rw [htable, h, Bool.true_and, decide_eq_true_iff]

theorem Instr.indexSpec_eq (i : Instr) : i.indexSpec = (toFields i).x := by
  cases i <;> rfl

theorem indexOf_eq (w : Word) : Machine.indexOf w = (decode w).indexSpec.toNat := by
  rw [Instr.indexSpec_eq, toFields_decode]
  exact (splitWord_toNat w).2.2.2.1.symm

end Sys2Proof

namespace Sys2Proof.Machine

/-! ### The refusals -/

/-- The rows without a function are refused with their own code and mode bit (R71). -/
theorem exec_of_not_allocated {i : Instr} (s : State) (h : i.allocated = false) :
    exec i s = .refused (.unallocated (BitVec.ofNat 6 (toFields i).code) (toFields i).m) := by
  cases i with
  | f04_0 | f05_0 | f06_0 | f07_0 | f14_0 | f15_0 | f16_0 | f17_0 | f71 | f72 | f75 => rfl
  | _ => cases h

/-- A B-naming function tests X before all else (R72). -/
theorem exec_of_bNaming {i : Instr} (s : State) (hb : i.bNaming = true) (hx : i.indexSpec = 0) :
    exec i s = .refused .noIndexRegisterNamed := by
  cases i with
  | f00_0 | f00_1 | f01_0 | f01_1 | f02_0 | f02_1 | f03_0 | f03_1 | f04_1 | f05_1 | f06_1 | f07_1
  | f20_0 | f20_1 | f21_0 | f21_1 | f22_0 | f22_1 | f23_0 | f23_1 | f24_0 | f24_1 | f25_0 | f25_1
  | f26_0 | f26_1 | f27_0 | f27_1 | f40 | f41 | f42 | f43 => exact namingIndex_of_eq_zero _ hx
  | _ => cases hb

/-- The two refusals are all: a well-formed instruction completes or names a location that does not exist. -/
theorem exec_ne_refused {i : Instr} (s : State) (h : i.wellFormed = true) (r : Refusal) :
    exec i s ≠ .refused r := by
  obtain ⟨hallocated, hnames⟩ := Bool.and_eq_true_iff.mp h
  intro hexec
  have hanswer := exec_answer i s
  rw [hexec] at hanswer
  cases hanswer with
  | namesNone hnone => exact absurd (hnames.symm.trans hnone) (by decide)
  | notAllocated f m hnone => exact absurd (hallocated.symm.trans hnone) (by decide)

end Sys2Proof.Machine

namespace Sys2Proof.Proofs
open Sys2Proof.Machine

/-- Settles O1: the fields come back from the word, and the instruction from its fields. -/
theorem decodeInvertsEncode : Obligations.DecodeInvertsEncode := by
  intro i
  rw [encode, decode_joinWord, ofFields_toFields]

/-- Settles O2: the fields come back from the instruction, and the word from its fields. -/
theorem encodeInvertsDecode : Obligations.EncodeInvertsDecode := by
  intro w
  rw [encode, toFields_decode, joinWord_splitWord]

/-- Settles O3: the table row by row, each by its two octal digits and its mode bit. -/
theorem decodeReadsTheOpcodeMap : Obligations.DecodeReadsTheOpcodeMap := by
  intro m x n
  have row (group digit : Fin 8) (m : Bool) := decode_wordOf group digit m x n
  exact ⟨row 0 0 false, row 0 0 true, row 0 1 false, row 0 1 true, row 0 2 false, row 0 2 true,
    row 0 3 false, row 0 3 true, row 0 4 false, row 0 4 true, row 0 5 false, row 0 5 true,
    row 0 6 false, row 0 6 true, row 0 7 false, row 0 7 true,
    row 1 0 false, row 1 0 true, row 1 1 false, row 1 1 true, row 1 2 false, row 1 2 true,
    row 1 3 false, row 1 3 true, row 1 4 false, row 1 4 true, row 1 5 false, row 1 5 true,
    row 1 6 false, row 1 6 true, row 1 7 false, row 1 7 true,
    row 2 0 false, row 2 0 true, row 2 1 false, row 2 1 true, row 2 2 false, row 2 2 true,
    row 2 3 false, row 2 3 true, row 2 4 false, row 2 4 true, row 2 5 false, row 2 5 true,
    row 2 6 false, row 2 6 true, row 2 7 false, row 2 7 true,
    row 3 0 false, row 3 0 true, row 3 1 false, row 3 1 true, row 3 2 false, row 3 2 true,
    row 3 3 false, row 3 3 true, row 3 4 false, row 3 4 true, row 3 5 false, row 3 5 true,
    row 3 6 false, row 3 6 true, row 3 7 false, row 3 7 true,
    row 4 0 m, row 4 1 m, row 4 2 m, row 4 3 m, row 4 4 m, row 4 5 m, row 4 6 m, row 4 7 m,
    row 5 0 m, row 5 1 m, row 5 2 false, row 5 2 true, row 5 3 false, row 5 3 true, row 5 4 false,
    row 5 4 true, row 5 5 false, row 5 5 true, row 5 6 false, row 5 6 true, row 5 7 false,
    row 5 7 true,
    row 6 0 m, row 6 1 m, row 6 2 m, row 6 3 false, row 6 3 true, row 6 4 false, row 6 4 true,
    row 6 5 false, row 6 5 true, row 6 6 false, row 6 6 true, row 6 7 false, row 6 7 true,
    row 7 0 m, row 7 1 m, row 7 2 m, row 7 3 m, row 7 4 m, row 7 5 m, row 7 6 m, row 7 7 m⟩

/-- Settles O4: ten closed words. -/
theorem decodeReadsTheSpecsWords : Obligations.DecodeReadsTheSpecsWords := by
  unfold Obligations.DecodeReadsTheSpecsWords
  decide

/-- Settles O5: the three clauses are the rows of R71, the B-naming functions with X = 0, and the rest. -/
theorem decodingProcedureRefusesByName : Obligations.DecodingProcedureRefusesByName := by
  intro w s
  rw [codeOf_eq, modeOf_eq, indexOf_eq]
  generalize decode w = i
  have hindex : i.indexSpec = 0 ↔ i.indexSpec.toNat = 0 := BitVec.toNat_eq
  split_ifs with hnone hnaming
  · rw [exec_of_not_allocated s (i.not_allocated_iff.mpr hnone)]
    cases (toFields i).m <;> rfl
  all_goals
    rw [← i.not_allocated_iff, Bool.not_eq_false] at hnone
    rw [← i.bNaming_iff hnone, ← hindex] at hnaming
  · exact exec_of_bNaming s hnaming.1 hnaming.2
  · have hwf : i.wellFormed = true := by
      simpa [Instr.wellFormed, Instr.namesIndexRegister, hnone, imp_iff_not_or] using hnaming
    exact ⟨hwf, exec_ne_refused s hwf⟩

/-- Settles O21: X is the first thing a B-naming function looks at. -/
theorem bNamingFunctionsNeedAnIndexRegister : Obligations.BNamingFunctionsNeedAnIndexRegister :=
  fun _ s hb hx => exec_of_bNaming s hb hx

end Sys2Proof.Proofs
end

section
/-! PROOFS. Steps (10_state.md R27; 20_memory.md R46; 60_exceptions.md R260; 47_group7_peripheral.md R243): when
a step runs an instruction, when it stops, and what a stopped run does. -/

namespace Sys2Proof.Machine

/-! ### A run that is neither refused nor ended -/

theorem step_of_running {s : State} (hmark : s.refusedMark = none) (hended : s.ended = false) :
    step s = fetch s fun w s' => exec (decode w) s' := by
  simp [step, whenRunning, hmark, hended]

theorem advanceS_of_lt {s : State} (next : State → Result) (h : s.sa.toNat + 1 < 2 ^ 19) :
    advanceS s next = next (s.setS s.sf (s.sa + 1)) := if_pos h

theorem advanceS_of_not_lt {s : State} (next : State → Result) (h : ¬ s.sa.toNat + 1 < 2 ^ 19) :
    advanceS s next = .fault (.addressOutOfRange ⟨s.sf, 2 ^ 19⟩) := if_neg h

theorem step_of_hasLoc {s : State} (hmark : s.refusedMark = none) (hended : s.ended = false)
    (hloc : s.hasLoc s.here = true) :
    step s = advanceS s fun s' => exec (decode (s.peek s.here)) s' :=
  (step_of_running hmark hended).trans (loadWord_of_hasLoc _ hloc)

/-- Sequencing (R27): the instruction at S runs with S already advanced. -/
theorem step_eq_exec {s : State} (hmark : s.refusedMark = none) (hended : s.ended = false)
    (hloc : s.hasLoc s.here = true) (hnext : s.sa.toNat + 1 < 2 ^ 19) :
    step s = exec (decode (s.peek s.here)) { s with sa := s.sa + 1 } :=
  (step_of_hasLoc hmark hended hloc).trans (advanceS_of_lt _ hnext)

/-! ### A run that has stopped -/

theorem step_of_fault {s : State} {r : Fault} (h : s.refusedMark = some (.fault r)) :
    step s = .fault r := by
  simp [step, whenRunning, h]

theorem step_of_refusal {s : State} {r : Refusal} (h : s.refusedMark = some (.refusal r)) :
    step s = .refused r := by
  simp [step, whenRunning, h]

theorem step_of_ended {s : State} (hmark : s.refusedMark = none) (hended : s.ended = true) :
    step s = .fault .programmeEnded := by
  simp [step, whenRunning, hmark, hended]

theorem recordStep_of_outOfRange {s : State} {l : Loc} (h : step s = .fault (.addressOutOfRange l)) :
    recordStep s = { s with refusedMark := some (.fault (.addressOutOfRange l)) } := by
  rw [recordStep, h]

theorem recordStep_of_refused {s : State} {r : Refusal} (h : step s = .refused r) :
    recordStep s = { s with refusedMark := some (.refusal r) } := by
  rw [recordStep, h]

/-- A marked run answers its mark, and recording that again changes nothing. -/
theorem recordStep_of_marked {s : State} {mark : Stop} (h : s.refusedMark = some mark) :
    recordStep s = s := by
  cases mark with
  | fault r =>
    cases r with
    | addressOutOfRange l => rw [recordStep_of_outOfRange (step_of_fault h), ← h]
    | programmeEnded => rw [recordStep, step_of_fault h]
  | refusal r => rw [recordStep_of_refused (step_of_refusal h), ← h]

theorem runSteps_of_marked {s : State} {mark : Stop} (h : s.refusedMark = some mark) (k : Nat) :
    runSteps k s = s := by
  induction k with
  | zero => rfl
  | succ k ih => rw [runSteps, recordStep_of_marked h, ih]

/-! ### A word placed at S -/

theorem decode_of_decodeTableWord {nbits w : Nat} {i : Instr} (h : decodeTableWord nbits w = some i) :
    decode (BitVec.ofNat 20 (w % 2 ^ nbits)) = i := by
  unfold decodeTableWord at h
  split at h
  · exact Option.some.inj h
  · cases h

theorem peek_withFetchWord {s : State} (nbits w : Nat) (hwf : s.storesWf) :
    (s.withFetchWord nbits w).peek s.here = BitVec.ofNat 20 (w % 2 ^ nbits) :=
  State.peek_poke_same s s.here _ hwf.1 hwf.2

theorem hasLoc_withFetchWord (s : State) (nbits w : Nat) (l : Loc) :
    (s.withFetchWord nbits w).hasLoc l = s.hasLoc l := by
  obtain ⟨st, k⟩ := l
  cases st <;> rfl

end Sys2Proof.Machine

namespace Sys2Proof.Proofs
open Sys2Proof.Machine

/-- Settles O6: the fetch finds its location and the advance of S fits. -/
theorem stepRunsTheDecodedInstruction : Obligations.StepRunsTheDecodedInstruction :=
  fun s hmark hended hloc hnext => step_eq_exec hmark hended ((hasLoc_iff s _).mpr hloc) hnext

/-- Settles O7: the fetch looks for its location first, and the advance for the next one after it. -/
theorem fetchBeyondTheStoreFaults : Obligations.FetchBeyondTheStoreFaults := by
  intro s hmark hended
  constructor
  · intro hbeyond
    have hgone : s.hasLoc s.here = false := (hasLoc_eq_false_iff s _).mpr (not_lt.mpr hbeyond)
    exact (step_of_running hmark hended).trans (loadWord_of_not_hasLoc _ hgone)
  · intro hloc hlast
    rw [step_of_hasLoc hmark hended ((hasLoc_iff s _).mpr hloc), advanceS_of_not_lt _ (by omega)]

/-- Settles O8: the three answers of a run that has stopped. -/
theorem stoppedRunTakesNoStep : Obligations.StoppedRunTakesNoStep :=
  fun _ => ⟨fun _ => step_of_fault, fun _ => step_of_refusal, step_of_ended⟩

/-- Settles O9: the first recorded step marks the run, and a marked run stays as it is. -/
theorem refusedStepOnlyMarksTheRun : Obligations.RefusedStepOnlyMarksTheRun := by
  intro s _
  constructor
  · intro l h k
    rw [runSteps, recordStep_of_outOfRange h, runSteps_of_marked rfl]
  · intro r h k
    rw [runSteps, recordStep_of_refused h, runSteps_of_marked rfl]

/-- Settles O10: the placed state runs on, its S names the same location, and that location holds the word. -/
theorem placedWordIsTheNextInstruction : Obligations.PlacedWordIsTheNextInstruction := by
  intro s nbits w i hwf hloc hnext hdecode
  have hthere : (s.withFetchWord nbits w).hasLoc s.here = true := by
    rw [hasLoc_withFetchWord, hasLoc_iff]
    exact hloc
  have hstep : step (s.withFetchWord nbits w) = exec (decode ((s.withFetchWord nbits w).peek s.here))
      { s.withFetchWord nbits w with sa := s.sa + 1 } := step_eq_exec rfl rfl hthere hnext
  rw [hstep, peek_withFetchWord nbits w hwf, decode_of_decodeTableWord hdecode]

/-- Settles O11: both stores of the reset state are empty, its sizes are in range and its run has not ended. -/
theorem resetMeetsTheInvariant : Obligations.ResetMeetsTheInvariant where
  fs_wf := State.reset_memory_wf.1
  ms_wf := State.reset_memory_wf.2
  fs_inside := by decide
  ms_inside := by decide
  fastSize_range := by decide
  mainSize_range := by decide
  ended_reentry := State.reentry_of_running rfl

end Sys2Proof.Proofs
end

section
/-! PROOFS. Groups 0 to 3: sums and copies by way of B[X], A and the store operands (R100 to R130, R140 to
R155, R160 to R175).  One lemma takes each way of summing to the statement made of it; the instructions then
differ in nothing but their form and the order of the sum. -/

namespace Sys2Proof.Machine

/-! ### Ranges and the marker -/

theorem inRange20_iff (z : Int) : inRange20 z = true ↔ -2 ^ 19 ≤ z ∧ z ≤ 2 ^ 19 - 1 := by
  simp [inRange20]

theorem inRange39_iff (z : Int) : inRange39 z = true ↔ -2 ^ 38 ≤ z ∧ z ≤ 2 ^ 38 - 1 := by
  simp [inRange39]

/-- The marker that `setOvr` leaves (R9). -/
theorem markerAfter_setOvr (s : State) (z : Int) : MarkerAfter s z (s.ovr || !inRange20 z) := by
  rw [MarkerAfter, Bool.or_eq_true, Bool.not_eq_true', ← Bool.not_eq_true, inRange20_iff, not_and_or,
    not_le, not_le]

/-! ### From the ways of summing to the statements -/

section
variable {i : Instr} {s : State}

theorem sumIntoA_of_sumToA {z : Int} (h : exec i s = sumToA z s) : SumIntoA i s z :=
  ⟨wrap20 z, _, h, toNat_wrap20 z, markerAfter_setOvr s z⟩

theorem sumIntoB_of_sumToB {x : IndexSpec} {z : Int} (hx : x ≠ 0) (h : exec i s = sumToB x z s) :
    SumIntoB i s x z := by
  refine ⟨_, _, h, ?_, fun k hk => IndexRegs.get_set_other _ _ _ _ hk, markerAfter_setOvr s z⟩
  rw [State.setOvr_b, IndexRegs.get_set_same _ _ _ hx, toNat_wrap20]

theorem copyIntoB_of_setB {x : IndexSpec} {w : Word} (hx : x ≠ 0) (h : exec i s = .next (s.setB x w)) :
    CopyIntoB i s x w :=
  ⟨_, h, IndexRegs.get_set_same _ _ _ hx, fun _ hk => IndexRegs.get_set_other _ _ _ _ hk⟩

/-- A write to one location after the marker is all that `StoresSum` allows. -/
theorem storesSum_of_poke {l : Loc} {z : Int} (hwf : s.storesWf)
    (h : exec i s = .next ((s.setOvr z).poke l (wrap20 z))) : StoresSum i s l z := by
  refine ⟨_, _, h, rfl, ?_, fun l' hne => State.peek_poke_other (s.setOvr z) _ _ _ hne,
    markerAfter_setOvr s z⟩
  rw [State.peek_poke_same (s.setOvr z) l _ hwf.1 hwf.2, toNat_wrap20]

/-- An instruction that puts a sum with the operand word into A. -/
theorem atOperand_of_sumToA {form : Form} {nm : Word} {f : Int → Int}
    (hexec : exec i s = withOperand form nm s fun v => sumToA (f (sv v)) s) :
    AtOperand i form nm s (fun l => SumIntoA i s (f (s.peek l).toInt)) :=
  atOperand_of_withOperand hexec fun _ => sumIntoA_of_sumToA

/-- An instruction that puts a sum with the operand word into B[x]. -/
theorem atOperand_of_sumToB {x : IndexSpec} {form : Form} {nm : Word} {f : Int → Int} (hx : x ≠ 0)
    (hexec : exec i s = namingIndex x (withOperand form nm s fun v => sumToB x (f (sv v)) s)) :
    AtOperand i form nm s (fun l => SumIntoB i s x (f (s.peek l).toInt)) :=
  atOperand_of_withOperand (hexec.trans (namingIndex_of_ne _ hx)) fun _ => sumIntoB_of_sumToB hx

/-- An instruction that puts a sum with the operand word back where the word came from. -/
theorem atOperand_of_sumToOperand {form : Form} {nm : Word} {f : Int → Int} (hwf : s.storesWf)
    (hexec : exec i s = sumToOperand form nm s f) :
    AtOperand i form nm s (fun l => StoresSum i s l (f (s.peek l).toInt)) :=
  atOperand_of_locate hexec (fun _ => loadWord_of_not_hasLoc _) fun _ hloc hat =>
    storesSum_of_poke hwf (hat.trans ((loadWord_of_hasLoc _ hloc).trans (storeWord_of_hasLoc _ hloc)))

end

/-- N stands for a number below 2^10 (R65, R66). -/
theorem toInt_plainN (n : AddressBits) : (plainN n).toInt = n.toNat := by
  have := n.isLt
  rw [plainN, BitVec.toInt_setWidth, Int.bmod_eq_of_le] <;> omega

theorem exec_f33_1 (x : IndexSpec) (n : AddressBits) (s : State) : exec (.f33_1 x n) s =
    withOperand .indirect (modifiedN s x n) s fun v => .next (s.setA v) := rfl

end Sys2Proof.Machine

namespace Sys2Proof.Proofs
open Sys2Proof.Machine

/-- Settles O16: X names a register, and the unmodified N stands for itself. -/
theorem indexRegisterSumsWithTheDirectOperand : Obligations.IndexRegisterSumsWithTheDirectOperand := by
  intro x n s hx
  rw [← toInt_plainN]
  exact ⟨sumIntoB_of_sumToB hx (namingIndex_of_ne _ hx), sumIntoB_of_sumToB hx (namingIndex_of_ne _ hx),
    sumIntoB_of_sumToB hx (namingIndex_of_ne _ hx)⟩

/-- Settles O17: X names a register, so each of the nine goes on with its operand word to a sum into B[X]. -/
theorem indexRegisterSumsWithAStoreOperand : Obligations.IndexRegisterSumsWithAStoreOperand := by
  intro x n s hx
  and_intros <;> exact atOperand_of_sumToB hx rfl

/-- Settles O18: N as a word, or the operand word, goes into B[X] alone. -/
theorem indexRegisterCopies : Obligations.IndexRegisterCopies := by
  intro x n s hx
  refine ⟨copyIntoB_of_setB hx ((namingIndex_of_ne _ hx).trans ?_), ?_⟩
  · rw [BitVec.ofNat_toNat]
    rfl
  · and_intros <;> exact atOperand_of_withOperand (namingIndex_of_ne _ hx) fun _ => copyIntoB_of_setB hx

/-- Settles O19: the nine are sums into their operand location, in three forms and three orders. -/
theorem indexRegisterSumsIntoTheStore : Obligations.IndexRegisterSumsIntoTheStore := by
  intro x n s hx hwf
  and_intros <;> exact atOperand_of_sumToOperand hwf (namingIndex_of_ne _ hx)

/-- Settles O20: b goes to the operand location, which is not read. -/
theorem indexRegisterStores : Obligations.IndexRegisterStores := by
  intro x n s hx hwf
  and_intros <;> exact atOperand_of_storeOperand hwf (namingIndex_of_ne _ hx)

/-- Settles O22: the modified operand is summed as a signed word. -/
theorem accumulatorSumsWithTheDirectOperand : Obligations.AccumulatorSumsWithTheDirectOperand :=
  fun _ _ _ => ⟨sumIntoA_of_sumToA rfl, sumIntoA_of_sumToA rfl, sumIntoA_of_sumToA rfl⟩

/-- Settles O23: the nine go on with their operand word to a sum into A. -/
theorem accumulatorSumsWithAStoreOperand : Obligations.AccumulatorSumsWithAStoreOperand := by
  intro x n s
  and_intros <;> exact atOperand_of_sumToA rfl

/-- Settles O25: the direct copy, the indirect load and the indirect store. -/
theorem accumulatorCopiesDirectAndIndirect : Obligations.AccumulatorCopiesDirectAndIndirect :=
  fun x n s => ⟨rfl, atOperand_of_withOperand (exec_f33_1 x n s) fun _ hnext => hnext,
    fun hwf => atOperand_of_storeOperand hwf rfl⟩

/-- Settles O26: as for B[X] in O19, with A in its place. -/
theorem accumulatorSumsIntoTheStore : Obligations.AccumulatorSumsIntoTheStore := by
  intro x n s hwf
  and_intros <;> exact atOperand_of_sumToOperand hwf rfl

end Sys2Proof.Proofs
end

section
/-! PROOFS. Operand assembly, the counting and the sub-routine jumps, and the jumps of Group 5 (30_encoding.md
R66, R68, R69; 44_group4_transfer_control.md R180, R181, R183; 45_group5_miscellaneous.md R200, R201). -/

namespace Sys2Proof.Machine

/-! ### Operands -/

theorem modifiedN_zero (s : State) (n : AddressBits) : modifiedN s 0 n = plainN n := rfl

theorem toNat_plainN (n : AddressBits) : (plainN n).toNat = n.toNat :=
  BitVec.toNat_setWidth_of_le (by decide)

/-- The sum of R66 on 20 bits. -/
theorem toNat_modifiedN (s : State) (x : IndexSpec) (n : AddressBits) : (modifiedN s x n).toNat =
    if x = 0 then n.toNat else (n.toNat + (s.b.get x).toNat) % 2 ^ 20 := by
  split_ifs with hx
  · rw [hx, modifiedN_zero, toNat_plainN]
  · rw [modifiedN_of_ne s n hx, BitVec.toNat_add, toNat_plainN]

theorem toNat_addr (w : Word) : (addr w).toNat = w.toNat % 2 ^ 19 := BitVec.toNat_setWidth ..

theorem fastLoc_eq (nm : Word) : fastLoc nm = ⟨.fast, nm.toNat % 2 ^ 19⟩ := by
  rw [fastLoc, toNat_addr]

theorem mainLoc_eq (nm : Word) : mainLoc nm = ⟨.main, nm.toNat % 2 ^ 19⟩ := by
  rw [mainLoc, toNat_addr]

/-- The three fields lie side by side in the low ten bits (R68). -/
theorem toNat_deviceOf (nm : Word) : (deviceOf nm).e.toNat = nm.toNat % 1024 / 512 ∧
    (deviceOf nm).p.toNat = nm.toNat % 512 / 16 ∧ (deviceOf nm).d.toNat = nm.toNat % 16 := by
  simp only [deviceOf, BitVec.extractLsb'_toNat, Nat.shiftRight_eq_div_pow]
  omega

/-! ### Counting jumps -/

/-- Where b is zero, a counting jump ends where it began (R180, R181, decision D11). -/
theorem countingJump_of_zero {x : IndexSpec} {s u : State} (hx : x ≠ 0) (hb : s.b.get x = 0) :
    namingIndex x (if s.b.get x ≠ 0 then .next u else .next s) = .next s := by
  rw [namingIndex_of_ne _ hx, if_neg (not_not.mpr hb)]

/-- Where it is not, it counts and jumps. -/
theorem countingJump_of_ne {x : IndexSpec} {s u : State} (hx : x ≠ 0) (hb : s.b.get x ≠ 0) :
    namingIndex x (if s.b.get x ≠ 0 then .next u else .next s) = .next u := by
  rw [namingIndex_of_ne _ hx, if_pos hb]

/-- One less modulo 2^20 is 2^20 - 1 more. -/
theorem toNat_sub_one_wraps (w : Word) : (w - 1).toNat = (w.toNat + (2 ^ 20 - 1)) % 2 ^ 20 := by
  have hone : (1 : Word).toNat = 1 := rfl
  rw [BitVec.toNat_sub, hone, Nat.add_comm]

theorem toNat_sub_one {w : Word} (h : w ≠ 0) : (w - 1).toNat = w.toNat - 1 := by
  rw [Ne, word_eq_zero_iff] at h
  have := w.isLt
  rw [toNat_sub_one_wraps]
  omega

/-- A jump that also writes B[x], in the terms of the statements. -/
theorem setB_jump_eq_jumped {x : IndexSpec} (hx : x ≠ 0) (s : State) (m : Bool) (nm w : Word) :
    ∃ b', (s.setB x w).jump m nm = { jumped s m nm with b := b' } ∧ b'.get x = w ∧
      ∀ k, k ≠ x → b'.get k = s.b.get k :=
  ⟨s.b.set x w, jump_eq_jumped _ m nm, IndexRegs.get_set_same _ _ _ hx,
    fun k hk => IndexRegs.get_set_other _ x k w hk⟩

/-! ### Executing an instruction several times -/

theorem execTimes_succ {i : Instr} {k : Nat} {s t : State} (h : execTimes i k s = .next t) :
    execTimes i (k + 1) s = exec i t := by
  induction k generalizing s with
  | zero =>
    obtain rfl := Host.Outcome.next.inj h
    rw [execTimes]
    cases exec i s <;> rfl
  | succ k ih =>
    rw [execTimes] at h ⊢
    cases hexec : exec i s with
    | next u => rw [hexec] at h; exact ih h
    | fault r => rw [hexec] at h; cases h
    | refused r => rw [hexec] at h; cases h

/-- The state after `j` of the b jumps of a loop closed by 41. -/
theorem execTimes_f41 (m : Bool) {x : IndexSpec} (n : AddressBits) (s : State) (hx : x ≠ 0) (j : Nat)
    (hj : j ≤ (s.b.get x).toNat) :
    ∃ t, execTimes (.f41 m x n) j s = .next t ∧ (t.b.get x).toNat = (s.b.get x).toNat - j ∧
      (0 < j → t.sf = storeOfMode m ∧ t.sa = addr (plainN n)) := by
  induction j with
  | zero => exact ⟨s, rfl, rfl, fun h => absurd h (by decide)⟩
  | succ j ih =>
    obtain ⟨t, htimes, hb, -⟩ := ih (by omega)
    have hne : t.b.get x ≠ 0 := fun h0 => by
      rw [word_eq_zero_iff] at h0
      omega
    have hjump := (exec_f41 m x n t).trans (countingJump_of_ne hx hne)
    refine ⟨_, (execTimes_succ htimes).trans hjump, ?_, fun _ => ⟨rfl, rfl⟩⟩
    rw [State.jump_b, State.setB_b, IndexRegs.get_set_same _ _ _ hx, toNat_sub_one hne]
    omega

/-! ### The sub-routine jump -/

theorem exec_f43_of_ne (m : Bool) {x : IndexSpec} (n : AddressBits) (s : State) (hx : x ≠ 0) :
    exec (.f43 m x n) s = .next ((s.setB x s.link).jump m (plainN n)) := by
  rw [exec_f43, namingIndex_of_ne _ hx]

/-- The link: the store bit in the sign digit, the location number below it (R183). -/
theorem toNat_link (s : State) : s.link.toNat = (if s.sf = .main then 2 ^ 19 else 0) + s.sa.toNat := by
  have := s.sa.isLt
  rw [State.link, BitVec.toNat_ofNat]
  cases s.sf <;> simp <;> omega

/-- The low 19 bits of the link are S.a, whichever store it names. -/
theorem addr_plainN_zero_add_link (s : State) : addr (plainN 0 + s.link) = s.sa := by
  apply BitVec.eq_of_toNat_eq
  have := s.sa.isLt
  rw [toNat_addr, BitVec.toNat_add, toNat_plainN, toNat_link]
  split <;> simp <;> omega

theorem exec_f50 (m : Bool) (x : IndexSpec) (n : AddressBits) (s : State) :
    exec (.f50 m x n) s = .next (s.jump m (modifiedN s x n)) := rfl

theorem exec_f51 (m : Bool) (x : IndexSpec) (n : AddressBits) (s : State) : exec (.f51 m x n) s =
    .next (s.jump m (wrap20 ((s.sa.toNat : Int) - ((modifiedN s x n).toNat : Int)))) := rfl

theorem toNat_addr_wrap20 (z : Int) : ((addr (wrap20 z)).toNat : Int) = z % 2 ^ 19 := by
  have := toNat_wrap20 z
  rw [toNat_addr]
  omega

end Sys2Proof.Machine

namespace Sys2Proof.Proofs
open Sys2Proof.Machine

/-- Settles O28: the test of b, and the two counts as numbers. -/
theorem countingJumps : Obligations.CountingJumps := by
  intro m x n s hx
  refine ⟨fun hb => ⟨countingJump_of_zero hx hb, countingJump_of_zero hx hb⟩, fun hb => ⟨?_, ?_⟩⟩
  · obtain ⟨b', hjump, hget, hother⟩ := setB_jump_eq_jumped hx s m (plainN n) (s.b.get x + 1)
    exact ⟨b', hjump ▸ (exec_f40 m x n s).trans (countingJump_of_ne hx hb), hget ▸ BitVec.toNat_add .., hother⟩
  · obtain ⟨b', hjump, hget, hother⟩ := setB_jump_eq_jumped hx s m (plainN n) (s.b.get x - 1)
    exact ⟨b', hjump ▸ (exec_f41 m x n s).trans (countingJump_of_ne hx hb), hget ▸ toNat_sub_one hb, hother⟩

/-- Settles O30: the link as a number, and a jump that also writes B[X]. -/
theorem subroutineJumpSavesTheLink : Obligations.SubroutineJumpSavesTheLink := by
  intro m x n s hx
  obtain ⟨b', hjump, hget, hother⟩ := setB_jump_eq_jumped hx s m (plainN n) s.link
  exact ⟨b', hjump ▸ exec_f43_of_ne m n s hx, hget ▸ toNat_link s, hother⟩

/-- Settles O34: the return adds nothing to the link, and the target of a jump drops the link's sign digit. -/
theorem subroutineReturnReachesTheCaller : Obligations.SubroutineReturnReachesTheCaller := by
  intro m x n s hx
  refine ⟨_, exec_f43_of_ne m n s hx, fun u m' hlink => ?_⟩
  rw [State.jump_b, State.setB_b, IndexRegs.get_set_same _ _ _ hx] at hlink
  rw [exec_f50, modifiedN_of_ne u 0 hx, hlink, State.jump, addr_plainN_zero_add_link]
  rfl

/-- Settles O35: each jump of the loop takes one from b, and at b = 0 the next 41 does nothing. -/
theorem countDownLoopJumpsExactlyOftenEnough : Obligations.CountDownLoopJumpsExactlyOftenEnough := by
  intro m x n s j hx hj
  obtain ⟨t, htimes, hb, htarget⟩ := execTimes_f41 m n s hx j hj
  refine ⟨t, htimes, hb, fun hpos => ?_, fun hlast => countingJump_of_zero hx ?_⟩
  · obtain ⟨hsf, hsa⟩ := htarget hpos
    refine ⟨hsf, ?_⟩
    have := n.isLt
    rw [hsa, toNat_addr, toNat_plainN]
    omega
  · rw [word_eq_zero_iff]
    omega

/-- Settles O36: the model's jump is the target of R188. -/
theorem jumpGoesToTheTarget : Obligations.JumpGoesToTheTarget := by
  intro m x n s
  rw [exec_f50, jump_eq_jumped]

/-- Settles O37: the difference modulo 2^20, of which the target keeps 19 bits. -/
theorem jumpBackwardsSubtractsFromS : Obligations.JumpBackwardsSubtractsFromS :=
  fun m x n s => ⟨_, exec_f51 m x n s, toNat_addr_wrap20 _⟩

/-- Settles O57: N is widened without a sign, and the sum is that of words. -/
theorem modifiedOperandIsTheWrappedSum : Obligations.ModifiedOperandIsTheWrappedSum :=
  fun s x n => ⟨toNat_plainN n, toNat_modifiedN s x n⟩

/-- Settles O58: the forms by way of the low 19 bits, the device by way of the low ten. -/
theorem locationsAndDevicesFromTheOperand : Obligations.LocationsAndDevicesFromTheOperand := by
  intro s nm
  refine ⟨fastLoc_eq nm, mainLoc_eq nm, ?_, toNat_deviceOf nm⟩
  rw [location, fastLoc_eq, mainLoc_eq]

end Sys2Proof.Proofs
end

section
/-! PROOFS. Group 5, R and counts in the store (45_group5_miscellaneous.md R204 to R209, R212, R213), and
Group 7, the peripheral instructions (47_group7_peripheral.md R240, R241, R243, R244). -/

namespace Sys2Proof.Machine

/-! ### Counts in the store -/

/-- The statement on a word that is known, from one on a word with a property. -/
theorem AtOperand.imp {i : Instr} {form : Form} {nm : Word} {s : State} {P Q : Loc → Prop}
    (himp : ∀ l, P l → Q l) (h : AtOperand i form nm s P) : AtOperand i form nm s Q := by
  unfold AtOperand at h ⊢
  split_ifs with hholder hloc
  · rwa [if_pos hholder] at h
  · rw [if_neg hholder, if_pos hloc] at h
    exact himp _ h
  · rwa [if_neg hholder, if_neg hloc] at h

theorem atOperand_of_countUp {i : Instr} {form : Form} {nm : Word} {s : State} (hwf : s.storesWf)
    (hexec : exec i s = updateOperand form nm s fun v => v + 1) : AtOperand i form nm s fun l =>
      ∃ w : Word, StoresWord i s l w ∧ w.toNat = ((s.peek l).toNat + 1) % 2 ^ 20 :=
  (atOperand_of_updateOperand hwf hexec).imp fun l h => ⟨_, h, BitVec.toNat_add (s.peek l) 1⟩

theorem atOperand_of_countDown {i : Instr} {form : Form} {nm : Word} {s : State} (hwf : s.storesWf)
    (hexec : exec i s = updateOperand form nm s fun v => v - 1) : AtOperand i form nm s fun l =>
      ∃ w : Word, StoresWord i s l w ∧ w.toNat = ((s.peek l).toNat + (2 ^ 20 - 1)) % 2 ^ 20 :=
  (atOperand_of_updateOperand hwf hexec).imp fun l h => ⟨_, h, toNat_sub_one_wraps (s.peek l)⟩

/-! ### R -/

theorem exec_f53_0 (x : IndexSpec) (n : AddressBits) (s : State) : exec (.f53_0 x n) s =
    withOperand .fast (modifiedN s x n) s fun v => .next (s.setR v) := rfl

theorem exec_f53_1 (x : IndexSpec) (n : AddressBits) (s : State) : exec (.f53_1 x n) s =
    withOperand .main (modifiedN s x n) s fun v => .next (s.setR v) := rfl

/-! ### Inputs -/

/-- The word drawn is the next one supplied, else a free value, and the draw uses it up (log 27). -/
theorem draws_nextInput (s : State) : Draws s s.nextInput s.takeInput.inputs s.takeInput.freeCount := by
  constructor
  · intro t rest h
    obtain ⟨hword, htake⟩ := State.takeInput_supplied s t rest h
    rw [hword, htake]
    exact ⟨rfl, rfl, rfl⟩
  · intro h
    obtain ⟨hword, htake⟩ := State.takeInput_drawn s h
    rw [hword, htake]
    exact ⟨rfl, h, rfl⟩

end Sys2Proof.Machine

namespace Sys2Proof.Proofs
open Sys2Proof.Machine

/-- Settles O40: whole words move between R and the operand location. -/
theorem auxiliaryRegisterMoves : Obligations.AuxiliaryRegisterMoves :=
  fun x n s => ⟨atOperand_of_withOperand (exec_f53_0 x n s) fun _ hnext => hnext,
    atOperand_of_withOperand (exec_f53_1 x n s) fun _ hnext => hnext,
    fun hwf => atOperand_of_storeOperand hwf rfl, fun hwf => atOperand_of_storeOperand hwf rfl⟩

/-- Settles O41: counting is addition and subtraction of words, which wrap. -/
theorem countsInStore : Obligations.CountsInStore :=
  fun _ _ _ hwf => ⟨atOperand_of_countUp hwf rfl, atOperand_of_countUp hwf rfl,
    atOperand_of_countDown hwf rfl, atOperand_of_countDown hwf rfl⟩

/-- Settles O51: the draw, and then the sum of 10 with the drawn word. -/
theorem inputAndAddSumsTheDrawnWord : Obligations.InputAndAddSumsTheDrawnWord :=
  fun _ _ _ s => ⟨s.nextInput, _, _, _, _, draws_nextInput s, rfl, toNat_wrap20 _, markerAfter_setOvr s _⟩

/-- Settles O52: the draw, and the drawn word in A. -/
theorem inputLoadsTheDrawnWord : Obligations.InputLoadsTheDrawnWord :=
  fun _ _ _ s => ⟨s.nextInput, _, _, draws_nextInput s, rfl⟩

/-- Settles O54: a program break is a jump, an event and the end of the run. -/
theorem programBreakEndsTheRun : Obligations.ProgramBreakEndsTheRun := by
  intro m x n s
  refine ⟨s.programBreak (storeOfMode m) (addr (modifiedN s x n)), rfl, ?_,
    fun hmark => step_of_ended hmark rfl⟩
  rw [← jump_eq_jumped, BitVec.ofNat_toNat]
  rfl

/-- Settles O55: 77 does nothing but record its event. -/
theorem outputRecordsA : Obligations.OutputRecordsA := fun _ _ _ _ => rfl

end Sys2Proof.Proofs
end

section
/-! PROOFS. Group 6: the shifts, the double-length register, the square root, the products and the divisions
(46_group6_long_arith_shifts.md R220 to R232; 10_state.md R23). -/

namespace Sys2Proof.Machine

/-! ### What the instructions mean -/

theorem exec_f62 (m : Bool) (x : IndexSpec) (n : AddressBits) (s : State) : exec (.f62 m x n) s =
    shiftToAR (shiftInt (doubleValue s.a s.r) (shiftCount (modifiedN s x n))) s := rfl

theorem exec_f63_0 (x : IndexSpec) (n : AddressBits) (s : State) : exec (.f63_0 x n) s =
    withOperand .fast (modifiedN s x n) s fun v => squareRoot (sv s.a + sv v) s := rfl

theorem exec_f63_1 (x : IndexSpec) (n : AddressBits) (s : State) : exec (.f63_1 x n) s =
    withOperand .main (modifiedN s x n) s fun v => squareRoot (sv s.a + sv v) s := rfl

theorem exec_f64_0 (x : IndexSpec) (n : AddressBits) (s : State) : exec (.f64_0 x n) s =
    withOperand .fast (modifiedN s x n) s fun v => multiplyDouble v s := rfl

theorem exec_f64_1 (x : IndexSpec) (n : AddressBits) (s : State) : exec (.f64_1 x n) s =
    withOperand .main (modifiedN s x n) s fun v => multiplyDouble v s := rfl

theorem exec_f65_0 (x : IndexSpec) (n : AddressBits) (s : State) : exec (.f65_0 x n) s =
    withOperand .fast (modifiedN s x n) s fun v => multiplyRounded v s := rfl

theorem exec_f65_1 (x : IndexSpec) (n : AddressBits) (s : State) : exec (.f65_1 x n) s =
    withOperand .main (modifiedN s x n) s fun v => multiplyRounded v s := rfl

theorem exec_f66_0 (x : IndexSpec) (n : AddressBits) (s : State) : exec (.f66_0 x n) s =
    withOperand .fast (modifiedN s x n) s fun v => divideWithRemainder v s := rfl

theorem exec_f66_1 (x : IndexSpec) (n : AddressBits) (s : State) : exec (.f66_1 x n) s =
    withOperand .main (modifiedN s x n) s fun v => divideWithRemainder v s := rfl

theorem exec_f67_0 (x : IndexSpec) (n : AddressBits) (s : State) : exec (.f67_0 x n) s =
    withOperand .fast (modifiedN s x n) s fun v => divideRounded v s := rfl

theorem exec_f67_1 (x : IndexSpec) (n : AddressBits) (s : State) : exec (.f67_1 x n) s =
    withOperand .main (modifiedN s x n) s fun v => divideRounded v s := rfl

/-! ### Words as integers -/

theorem toInt_bounds (w : Word) : -2 ^ 19 ≤ w.toInt ∧ w.toInt < 2 ^ 19 := ⟨BitVec.le_toInt w, BitVec.toInt_lt⟩

/-- A number in range is what its word stands for (R6, R8). -/
theorem toInt_wrap20 {z : Int} (hlow : -2 ^ 19 ≤ z) (hhigh : z ≤ 2 ^ 19 - 1) : (wrap20 z).toInt = z :=
  BitVec.toInt_ofInt_eq_self (by decide) hlow (by omega)

/-! ### Shifts -/

/-- Rounding toward minus infinity is the division of the statements, whose divisor is a power of two. -/
theorem shiftInt_eq_shiftedBy (z c : Int) : shiftInt z c = shiftedBy z c := by
  rw [shiftInt, shiftedBy, Int.fdiv_eq_ediv_of_nonneg z (by positivity)]

/-- A logical shift moves each bit `c` places; what has no place to come from is zero (R220). -/
theorem getLsbD_shiftLogical (w : Word) (c : Int) {k : Nat} (hk : k < 20) : (shiftLogical w c).getLsbD k =
    (decide (0 ≤ (k : Int) - c) && w.getLsbD ((k : Int) - c).toNat) := by
  rw [shiftLogical]
  split_ifs with hc
  · obtain ⟨j, rfl⟩ := Int.eq_ofNat_of_zero_le hc
    have hplace : ((k : Int) - j).toNat = k - j := by omega
    have htest : decide (0 ≤ (k : Int) - j) = decide (j ≤ k) := decide_eq_decide.mpr (by omega)
    rw [BitVec.getLsbD_ofNat, decide_eq_true hk, Bool.true_and, Int.toNat_natCast,
      Nat.testBit_mul_two_pow, hplace, htest]
    rfl
  · obtain ⟨j, hj⟩ := Int.eq_ofNat_of_zero_le (a := -c) (by omega)
    have hplace : ((k : Int) - c).toNat = k + j := by omega
    rw [BitVec.getLsbD_ofNat, decide_eq_true hk, Bool.true_and, hj, Int.toNat_natCast,
      Nat.testBit_div_two_pow, hplace, decide_eq_true (by omega), Bool.true_and]
    rfl

/-! ### The double-length register -/

theorem dividend_eq (s : State) : dividend s = doubleValue s.a s.r := by
  rw [dividend, doubleValue, BitVec.toNat_setWidth, sv]

/-- The two halves of the low 39 bits (R23). -/
theorem toNat_ofInt39 (z : Int) : ((BitVec.ofInt 39 z).toNat : Int) = z % 2 ^ 39 := by
  rw [BitVec.toNat_ofInt]
  omega

theorem toNat_setAR_a (s : State) (z : Int) :
    (s.setAR z).a.toNat = (BitVec.ofInt 39 z).toNat / 2 ^ 19 := by
  have := (BitVec.ofInt 39 z).isLt
  rw [State.setAR_a, BitVec.extractLsb'_toNat, Nat.shiftRight_eq_div_pow]
  omega

theorem toNat_setAR_r (s : State) (z : Int) :
    (s.setAR z).r.toNat = (BitVec.ofInt 39 z).toNat % 2 ^ 19 := by
  rw [State.setAR_r, BitVec.toNat_setWidth, BitVec.toNat_setWidth]
  omega

theorem holdsLow39_setAR (s : State) (z : Int) : HoldsLow39 (s.setAR z).a (s.setAR z).r z := by
  rw [HoldsLow39, toNat_setAR_a, toNat_setAR_r, ← toNat_ofInt39]
  omega

/-- An instruction that ends by writing AR, in the terms of the statements. -/
theorem holdsLow39_of_setAR {i : Instr} {s : State} {z : Int} {outside : Bool}
    (h : exec i s = .next ((s.markWhen outside).setAR z)) :
    ∃ a' r' o, exec i s = .next { s with a := a', r := r', ovr := o } ∧ HoldsLow39 a' r' z ∧
      (o = true ↔ s.ovr = true ∨ outside = true) :=
  ⟨_, _, _, h, holdsLow39_setAR (s.markWhen outside) z, Bool.or_eq_true_iff⟩

theorem doubleValue_bounds (a r : Word) : -2 ^ 38 ≤ doubleValue a r ∧ doubleValue a r ≤ 2 ^ 38 - 1 := by
  have := toInt_bounds a
  rw [doubleValue, sv]
  have := (r.setWidth 19).isLt
  omega

theorem doubleValue_setAR (s : State) {z : Int} (hlow : -2 ^ 38 ≤ z) (hhigh : z ≤ 2 ^ 38 - 1) :
    doubleValue (s.setAR z).a (s.setAR z).r = z := by
  obtain ⟨hboth, hr⟩ := holdsLow39_setAR s z
  rw [doubleValue, sv, BitVec.toInt_eq_toNat_cond, BitVec.toNat_setWidth]
  have := (s.setAR z).a.isLt
  split <;> omega

/-! ### Square root -/

/-- The search keeps `acc` at most the root and the root below `acc + 2^bits`. -/
theorem rootBits_spec (bits z acc : Nat) (hlow : acc * acc ≤ z)
    (hhigh : z < (acc + 2 ^ bits) * (acc + 2 ^ bits)) :
    rootBits bits z acc * rootBits bits z acc ≤ z ∧
      z < (rootBits bits z acc + 1) * (rootBits bits z acc + 1) := by
  induction bits generalizing acc with
  | zero => exact ⟨hlow, hhigh⟩
  | succ bits ih =>
    rw [rootBits]
    split_ifs with hfits
    · refine ih _ hfits ?_
      rwa [add_assoc, ← two_mul, ← pow_succ']
    · exact ih _ hlow (not_le.mp hfits)

theorem isqrt_spec {z : Nat} (h : z < 2 ^ 40) : isqrt z * isqrt z ≤ z ∧ z < (isqrt z + 1) * (isqrt z + 1) :=
  rootBits_spec 20 z 0 (Nat.zero_le z) (by simpa using h)

/-- Both branches of the root, in and outside its domain (R223). -/
theorem rootOf_of_squareRoot {i : Instr} {s : State} {v : Int} (h : exec i s = squareRoot v s) :
    RootOf i s v := by
  rw [squareRoot] at h
  split_ifs at h with hdomain
  · refine ⟨_, _, s.freeCount, h, markerAfter_setOvr s v, fun hlow hhigh => ⟨rfl, ?_⟩⟩
    obtain ⟨n, rfl⟩ := Int.eq_ofNat_of_zero_le hlow
    obtain ⟨hq, hq'⟩ := isqrt_spec (z := n * 2 ^ 19) (by omega)
    have hfits : isqrt (n * 2 ^ 19) < 2 ^ 20 := by
      by_contra hbig
      have := Nat.mul_le_mul (not_lt.mp hbig) (not_lt.mp hbig)
      omega
    rw [Int.toNat_natCast, BitVec.toNat_ofNat, Nat.mod_eq_of_lt hfits]
    exact_mod_cast And.intro hq hq'
  · refine ⟨_, _, _, h, markerAfter_setOvr s v, fun hlow hhigh => absurd ?_ hdomain⟩
    exact Bool.and_eq_true_iff.mpr ⟨decide_eq_true hlow, decide_eq_true hhigh⟩

/-! ### Products -/

theorem word_eq_least_iff (w : Word) : w = 0x80000#20 ↔ w.toInt = -2 ^ 19 :=
  BitVec.toInt_inj.symm

/-- A product of two words is -1 x -1, or at least one unit of single length below +1 (R225, R227). -/
theorem product_cases (a w : Word) :
    (a.toInt * w.toInt = 2 ^ 38 ∧ a = 0x80000#20 ∧ w = 0x80000#20) ∨
    (-2 ^ 38 ≤ a.toInt * w.toInt ∧ a.toInt * w.toInt ≤ 2 ^ 38 - 2 ^ 19 ∧
      ¬(a = 0x80000#20 ∧ w = 0x80000#20)) := by
  rw [word_eq_least_iff, word_eq_least_iff]
  obtain ⟨halow, hahigh⟩ := toInt_bounds a
  obtain ⟨hwlow, hwhigh⟩ := toInt_bounds w
  generalize a.toInt = x at *
  generalize w.toInt = y at *
  by_cases hx : x = -2 ^ 19
  · subst hx
    omega
  · right
    have habs : |x * y| ≤ (2 ^ 19 - 1) * 2 ^ 19 := by
      rw [abs_mul]
      exact mul_le_mul (abs_le.mpr ⟨by omega, by omega⟩) (abs_le.mpr ⟨by omega, by omega⟩)
        (abs_nonneg y) (by decide)
    obtain ⟨hlow, hhigh⟩ := abs_le.mp habs
    exact ⟨by omega, by omega, fun h => hx h.1⟩

theorem doubleProduct_of_multiplyDouble {i : Instr} {s : State} {v : Word}
    (h : exec i s = multiplyDouble v s) : DoubleProduct i s v := by
  obtain ⟨a', r', o, hexec, hholds, ho⟩ := holdsLow39_of_setAR h
  refine ⟨a', r', o, hexec, hholds, ho.trans (or_congr_right ?_)⟩
  rw [beq_iff_eq]
  rcases product_cases s.a v with ⟨hone, hboth⟩ | ⟨-, hle, hnot⟩
  · exact iff_of_true hone hboth
  · exact iff_of_false (fun hone => absurd (hone.symm.trans_le hle) (by decide)) hnot

/-- The marker of 65 is that of -1 x -1: every other product rounds into range (R227, decision D21). -/
theorem inRange20_roundProduct (a w : Word) : inRange20 (roundProduct (a.toInt * w.toInt)) = false ↔
    a = 0x80000#20 ∧ w = 0x80000#20 := by
  rw [← Bool.not_eq_true, inRange20_iff, roundProduct, Int.fdiv_eq_ediv_of_nonneg _ (by decide)]
  rcases product_cases a w with ⟨hone, hboth⟩ | ⟨hlow, hle, hnot⟩
  · exact iff_of_true (by omega) hboth
  · exact iff_of_false (by omega) hnot

theorem roundedProduct_of_multiplyRounded {i : Instr} {s : State} {v : Word}
    (h : exec i s = multiplyRounded v s) : RoundedProduct i s v := by
  refine ⟨wrap20 (roundProduct (s.a.toInt * v.toInt)), _, h, ?_, ?_⟩
  · rw [toNat_wrap20, roundProduct, Int.fdiv_eq_ediv_of_nonneg _ (by decide)]
  · rw [← inRange20_roundProduct, ← Bool.not_eq_true']
    exact Bool.or_eq_true_iff

/-! ### Divisions -/

theorem floor_div_eq_fdiv (a b : Int) : ⌊(a : ℚ) / (b : ℚ)⌋ = Int.fdiv a b := by
  rcases le_total 0 b with hb | hb
  · obtain ⟨n, rfl⟩ := Int.eq_ofNat_of_zero_le hb
    rw [Int.fdiv_eq_ediv_of_nonneg a hb, Int.cast_natCast, Rat.floor_intCast_div_natCast]
  · obtain ⟨n, hn⟩ := Int.eq_ofNat_of_zero_le (neg_nonneg.mpr hb)
    rw [← Int.neg_fdiv_neg, hn, Int.fdiv_eq_ediv_of_nonneg _ (Int.natCast_nonneg n),
      ← Rat.floor_intCast_div_natCast, ← Int.cast_natCast, ← hn, Int.cast_neg, Int.cast_neg, neg_div_neg_eq]

/-- The remainder that goes with truncation is smaller than the divisor and of the dividend's sign (R229). -/
theorem abs_tmod_lt (d : Int) {n : Int} (hn : n ≠ 0) : |Int.tmod d n| < |n| := by
  rw [Int.abs_eq_natAbs, Int.abs_eq_natAbs, Int.natAbs_tmod]
  exact_mod_cast Nat.mod_lt _ (Int.natAbs_pos.mpr hn)

theorem tmod_sign (d n : Int) : Int.tmod d n = 0 ∨ (Int.tmod d n < 0 ↔ d < 0) := by
  rcases le_or_gt 0 d with hd | hd
  · have := Int.tmod_nonneg n hd
    omega
  · have := Int.tmod_nonneg n (a := -d) (by omega)
    rw [Int.neg_tmod] at this
    omega

/-- The two tests of a division are the one condition of the statements: a divisor and a quotient in scale. -/
theorem ite_scale (n q : Int) (r r' : Result) : (if n = 0 then r' else if inRange20 q then r else r') =
    if n ≠ 0 ∧ -2 ^ 19 ≤ q ∧ q ≤ 2 ^ 19 - 1 then r else r' := by
  simp only [inRange20_iff]
  split_ifs <;> tauto

theorem dividesWithRemainder_of_divideWithRemainder {i : Instr} {s : State} {v : Word}
    (h : exec i s = divideWithRemainder v s) : DividesWithRemainder i s (dividend s) v.toInt := by
  rw [divideWithRemainder, ← dividend_eq, sv, divideTruncating, ite_scale] at h
  rw [DividesWithRemainder]
  split_ifs at h ⊢ with hscale
  · obtain ⟨hn, hlow, hhigh⟩ := hscale
    have hrem : dividend s - Int.tdiv (dividend s) v.toInt * v.toInt = Int.tmod (dividend s) v.toInt := by
      rw [Int.tmod_def, mul_comm]
    have hlt := abs_tmod_lt (dividend s) hn
    have hword : |v.toInt| ≤ 2 ^ 19 := abs_le.mpr ⟨(toInt_bounds v).1, (toInt_bounds v).2.le⟩
    obtain ⟨hmlow, hmhigh⟩ := abs_lt.mp (hlt.trans_le hword)
    refine ⟨wrap20 (Int.tdiv (dividend s) v.toInt), wrap20 (Int.tmod (dividend s) v.toInt), hrem ▸ h, ?_⟩
    rw [toInt_wrap20 hlow hhigh, toInt_wrap20 hmlow.le (by omega)]
    exact ⟨by rw [← hrem, add_sub_cancel], hlt, tmod_sign _ _⟩
  · exact ⟨_, _, _, h⟩

theorem floor_eq_roundQuotient (d : Int) {n : Int} (hn : n ≠ 0) :
    ⌊(d : ℚ) / (n : ℚ) + 1 / 2⌋ = roundQuotient d n := by
  have hn' : (n : ℚ) ≠ 0 := by exact_mod_cast hn
  rw [roundQuotient, ← floor_div_eq_fdiv]
  congr 1
  push_cast
  field_simp

theorem dividesRounded_of_divideRounded {i : Instr} {s : State} {v : Word}
    (h : exec i s = divideRounded v s) : DividesRounded i s (dividend s) v.toInt := by
  rw [divideRounded, ← dividend_eq, sv, divideNearest, ite_scale] at h
  rw [DividesRounded]
  by_cases hn : v.toInt = 0
  · rw [if_neg (fun hscale => hscale.1 hn)] at h ⊢
    exact ⟨_, _, h⟩
  · rw [floor_eq_roundQuotient _ hn]
    split_ifs at h ⊢ with hscale
    · exact ⟨_, h, toInt_wrap20 hscale.2.1 hscale.2.2⟩
    · exact ⟨_, _, h⟩

end Sys2Proof.Machine

namespace Sys2Proof.Proofs
open Sys2Proof.Machine

/-- Settles O43: A holds the shifted word, whose bits are known one by one. -/
theorem logicalShiftOfA : Obligations.LogicalShiftOfA :=
  fun _ _ _ s => ⟨_, rfl, fun _ hk => getLsbD_shiftLogical s.a _ hk⟩

/-- Settles O44: 61 is a sum into A of the shifted number. -/
theorem arithmeticalShiftOfA : Obligations.ArithmeticalShiftOfA := by
  intro m x n s
  rw [← shiftInt_eq_shiftedBy]
  exact sumIntoA_of_sumToA rfl

/-- Settles O45: 62 writes the shifted number to AR and marks what 39 bits cannot hold. -/
theorem doubleLengthShift : Obligations.DoubleLengthShift := by
  intro m x n s
  rw [← shiftInt_eq_shiftedBy, dividend_eq]
  obtain ⟨a', r', o, hexec, hholds, ho⟩ := holdsLow39_of_setAR (exec_f62 m x n s)
  refine ⟨a', r', o, hexec, hholds, ho.trans (or_congr_right ?_)⟩
  rw [Bool.not_eq_true', ← Bool.not_eq_true, inRange39_iff, not_and_or, not_le, not_le]

/-- Settles O46: the bit-by-bit search finds the largest root, in the fast and in the main form. -/
theorem squareRootIsTheLargestRoot : Obligations.SquareRootIsTheLargestRoot :=
  fun x n s => ⟨atOperand_of_withOperand (exec_f63_0 x n s) fun _ => rootOf_of_squareRoot,
    atOperand_of_withOperand (exec_f63_1 x n s) fun _ => rootOf_of_squareRoot⟩

/-- Settles O47: AR holds the product, and only -1 x -1 reaches +1. -/
theorem doubleLengthProductIsExact : Obligations.DoubleLengthProductIsExact :=
  fun x n s => ⟨atOperand_of_withOperand (exec_f64_0 x n s) fun _ => doubleProduct_of_multiplyDouble,
    atOperand_of_withOperand (exec_f64_1 x n s) fun _ => doubleProduct_of_multiplyDouble⟩

/-- Settles O48: A holds the rounded product, and only -1 x -1 rounds out of range. -/
theorem roundedProductIsTheNearest : Obligations.RoundedProductIsTheNearest :=
  fun x n s => ⟨atOperand_of_withOperand (exec_f65_0 x n s) fun _ => roundedProduct_of_multiplyRounded,
    atOperand_of_withOperand (exec_f65_1 x n s) fun _ => roundedProduct_of_multiplyRounded⟩

/-- Settles O49: quotient and remainder of the truncated division, or an open result out of scale. -/
theorem divisionLeavesQuotientAndRemainder : Obligations.DivisionLeavesQuotientAndRemainder :=
  fun x n s =>
    ⟨atOperand_of_withOperand (exec_f66_0 x n s) fun _ => dividesWithRemainder_of_divideWithRemainder,
    atOperand_of_withOperand (exec_f66_1 x n s) fun _ => dividesWithRemainder_of_divideWithRemainder⟩

/-- Settles O50: the model's integer quotient is the rational floor, in scale and out of it. -/
theorem roundedDivisionIsTheNearest : Obligations.RoundedDivisionIsTheNearest :=
  fun x n s => ⟨atOperand_of_withOperand (exec_f67_0 x n s) fun _ => dividesRounded_of_divideRounded,
    atOperand_of_withOperand (exec_f67_1 x n s) fun _ => dividesRounded_of_divideRounded⟩

/-- Settles O59: the 39 bits of `setAR` are split as `doubleValue` joins them. -/
theorem doubleLengthRegisterRoundTrip : Obligations.DoubleLengthRegisterRoundTrip := by
  refine ⟨fun s z hlow hhigh => ⟨doubleValue_setAR s hlow hhigh, ?_⟩, doubleValue_bounds⟩
  exact Nat.testBit_lt_two_pow (holdsLow39_setAR s z).2

end Sys2Proof.Proofs
end
